-- ==== Sys2Proof/Word.lean ====
section
/-! DEFINITION. The value types of the block: u8 and u16 (00_scope.md R8). -/

namespace Sys2Proof

/-- `u8` (R8): arithmetic wraps modulo 2^8. -/
abbrev Byte := BitVec 8

/-- `u16` (R8): arithmetic wraps modulo 2^16. -/
abbrev Word := BitVec 16

end Sys2Proof
end

