-- ==== Sys2Proof/Decode.lean ====
section
/-! DEFINITION. The decode ROM (10_state.md R34, R35; 30_encoding.md R83, R84), the decoder, total on any bytes, and
after it the encoder. -/

namespace Sys2Proof

/-! ## Bytes and words -/

/-- `w[15:8]` (00_scope.md R7). -/
def hiByte (w : Word) : Byte := w.extractLsb' 8 8

/-- `w[7:0]` (00_scope.md R7). -/
def loByte (w : Word) : Byte := w.extractLsb' 0 8

/-- `hi:lo` (00_scope.md R9), the byte order of every 16-bit value (20_memory.md R49). -/
def joinBytes (hi lo : Byte) : Word := hi ++ lo

/-! ## The opcode descriptor -/

/-- One letter of a `ZNHC` annotation (10_state.md R20): `-`, `0`, `1`, or a letter for computed. -/
inductive FlagEffect where
  | keep
  | zero
  | one
  | comp
deriving DecidableEq, Repr

/-- A flag-effect annotation in the order Z, N, H, C (10_state.md R20). -/
structure FlagNote where
  z : FlagEffect
  n : FlagEffect
  h : FlagEffect
  c : FlagEffect
deriving DecidableEq, Repr

/-- The operand shape of an opcode: no immediate, one immediate byte, two, or the prefix marker (30_encoding.md R66). -/
inductive OpForm where
  | plain (i : Instr)
  | imm8 (mk : Byte → Instr)
  | imm16 (mk : Word → Instr)
  | marker

/-- An opcode descriptor (10_state.md R35): mnemonic, byte length, cycle costs (taken first), flag effects, operands. -/
structure Opcode where
  mnemonic : String
  len : Nat
  cycles : List Nat
  flags : FlagNote
  form : OpForm

/-! ## The decode ROM -/

/-- The unprefixed table (30_encoding.md R83), bytes 0x00 to 0x0F. -/
def unprefixedRow0 : List (Option Opcode) := [
  some ⟨"NOP", 1, [4], ⟨.keep, .keep, .keep, .keep⟩, .plain .nop⟩,
  some ⟨"LD BC, n16", 3, [12], ⟨.keep, .keep, .keep, .keep⟩, .imm16 .ld_bc_n16⟩,
  some ⟨"LD (BC), A", 1, [8], ⟨.keep, .keep, .keep, .keep⟩, .plain .ld_mBC_a⟩,
  some ⟨"INC BC", 1, [8], ⟨.keep, .keep, .keep, .keep⟩, .plain .inc_bc⟩,
  some ⟨"INC B", 1, [4], ⟨.comp, .zero, .comp, .keep⟩, .plain .inc_b⟩,
  some ⟨"DEC B", 1, [4], ⟨.comp, .one, .comp, .keep⟩, .plain .dec_b⟩,
  some ⟨"LD B, n8", 2, [8], ⟨.keep, .keep, .keep, .keep⟩, .imm8 .ld_b_n8⟩,
  some ⟨"RLCA", 1, [4], ⟨.zero, .zero, .zero, .comp⟩, .plain .rlca⟩,
  some ⟨"LD (a16), SP", 3, [20], ⟨.keep, .keep, .keep, .keep⟩, .imm16 .ld_mA16_sp⟩,
  some ⟨"ADD HL, BC", 1, [8], ⟨.keep, .zero, .comp, .comp⟩, .plain .add_hl_bc⟩,
  some ⟨"LD A, (BC)", 1, [8], ⟨.keep, .keep, .keep, .keep⟩, .plain .ld_a_mBC⟩,
  some ⟨"DEC BC", 1, [8], ⟨.keep, .keep, .keep, .keep⟩, .plain .dec_bc⟩,
  some ⟨"INC C", 1, [4], ⟨.comp, .zero, .comp, .keep⟩, .plain .inc_c⟩,
  some ⟨"DEC C", 1, [4], ⟨.comp, .one, .comp, .keep⟩, .plain .dec_c⟩,
  some ⟨"LD C, n8", 2, [8], ⟨.keep, .keep, .keep, .keep⟩, .imm8 .ld_c_n8⟩,
  some ⟨"RRCA", 1, [4], ⟨.zero, .zero, .zero, .comp⟩, .plain .rrca⟩ ]

/-- The unprefixed table (30_encoding.md R83), bytes 0x10 to 0x1F. -/
def unprefixedRow1 : List (Option Opcode) := [
  some ⟨"STOP n8", 2, [4], ⟨.keep, .keep, .keep, .keep⟩, .imm8 .stop_n8⟩,
  some ⟨"LD DE, n16", 3, [12], ⟨.keep, .keep, .keep, .keep⟩, .imm16 .ld_de_n16⟩,
  some ⟨"LD (DE), A", 1, [8], ⟨.keep, .keep, .keep, .keep⟩, .plain .ld_mDE_a⟩,
  some ⟨"INC DE", 1, [8], ⟨.keep, .keep, .keep, .keep⟩, .plain .inc_de⟩,
  some ⟨"INC D", 1, [4], ⟨.comp, .zero, .comp, .keep⟩, .plain .inc_d⟩,
  some ⟨"DEC D", 1, [4], ⟨.comp, .one, .comp, .keep⟩, .plain .dec_d⟩,
  some ⟨"LD D, n8", 2, [8], ⟨.keep, .keep, .keep, .keep⟩, .imm8 .ld_d_n8⟩,
  some ⟨"RLA", 1, [4], ⟨.zero, .zero, .zero, .comp⟩, .plain .rla⟩,
  some ⟨"JR e8", 2, [12], ⟨.keep, .keep, .keep, .keep⟩, .imm8 .jr_e8⟩,
  some ⟨"ADD HL, DE", 1, [8], ⟨.keep, .zero, .comp, .comp⟩, .plain .add_hl_de⟩,
  some ⟨"LD A, (DE)", 1, [8], ⟨.keep, .keep, .keep, .keep⟩, .plain .ld_a_mDE⟩,
  some ⟨"DEC DE", 1, [8], ⟨.keep, .keep, .keep, .keep⟩, .plain .dec_de⟩,
  some ⟨"INC E", 1, [4], ⟨.comp, .zero, .comp, .keep⟩, .plain .inc_e⟩,
  some ⟨"DEC E", 1, [4], ⟨.comp, .one, .comp, .keep⟩, .plain .dec_e⟩,
  some ⟨"LD E, n8", 2, [8], ⟨.keep, .keep, .keep, .keep⟩, .imm8 .ld_e_n8⟩,
  some ⟨"RRA", 1, [4], ⟨.zero, .zero, .zero, .comp⟩, .plain .rra⟩ ]

/-- The unprefixed table (30_encoding.md R83), bytes 0x20 to 0x2F. -/
def unprefixedRow2 : List (Option Opcode) := [
  some ⟨"JR NZ, e8", 2, [12, 8], ⟨.keep, .keep, .keep, .keep⟩, .imm8 .jr_nz_e8⟩,
  some ⟨"LD HL, n16", 3, [12], ⟨.keep, .keep, .keep, .keep⟩, .imm16 .ld_hl_n16⟩,
  some ⟨"LD (HL+), A", 1, [8], ⟨.keep, .keep, .keep, .keep⟩, .plain .ld_mHLinc_a⟩,
  some ⟨"INC HL", 1, [8], ⟨.keep, .keep, .keep, .keep⟩, .plain .inc_hl⟩,
  some ⟨"INC H", 1, [4], ⟨.comp, .zero, .comp, .keep⟩, .plain .inc_h⟩,
  some ⟨"DEC H", 1, [4], ⟨.comp, .one, .comp, .keep⟩, .plain .dec_h⟩,
  some ⟨"LD H, n8", 2, [8], ⟨.keep, .keep, .keep, .keep⟩, .imm8 .ld_h_n8⟩,
  some ⟨"DAA", 1, [4], ⟨.comp, .keep, .zero, .comp⟩, .plain .daa⟩,
  some ⟨"JR Z, e8", 2, [12, 8], ⟨.keep, .keep, .keep, .keep⟩, .imm8 .jr_z_e8⟩,
  some ⟨"ADD HL, HL", 1, [8], ⟨.keep, .zero, .comp, .comp⟩, .plain .add_hl_hl⟩,
  some ⟨"LD A, (HL+)", 1, [8], ⟨.keep, .keep, .keep, .keep⟩, .plain .ld_a_mHLinc⟩,
  some ⟨"DEC HL", 1, [8], ⟨.keep, .keep, .keep, .keep⟩, .plain .dec_hl⟩,
  some ⟨"INC L", 1, [4], ⟨.comp, .zero, .comp, .keep⟩, .plain .inc_l⟩,
  some ⟨"DEC L", 1, [4], ⟨.comp, .one, .comp, .keep⟩, .plain .dec_l⟩,
  some ⟨"LD L, n8", 2, [8], ⟨.keep, .keep, .keep, .keep⟩, .imm8 .ld_l_n8⟩,
  some ⟨"CPL", 1, [4], ⟨.keep, .one, .one, .keep⟩, .plain .cpl⟩ ]

/-- The unprefixed table (30_encoding.md R83), bytes 0x30 to 0x3F. -/
def unprefixedRow3 : List (Option Opcode) := [
  some ⟨"JR NC, e8", 2, [12, 8], ⟨.keep, .keep, .keep, .keep⟩, .imm8 .jr_nc_e8⟩,
  some ⟨"LD SP, n16", 3, [12], ⟨.keep, .keep, .keep, .keep⟩, .imm16 .ld_sp_n16⟩,
  some ⟨"LD (HL-), A", 1, [8], ⟨.keep, .keep, .keep, .keep⟩, .plain .ld_mHLdec_a⟩,
  some ⟨"INC SP", 1, [8], ⟨.keep, .keep, .keep, .keep⟩, .plain .inc_sp⟩,
  some ⟨"INC (HL)", 1, [12], ⟨.comp, .zero, .comp, .keep⟩, .plain .inc_mHL⟩,
  some ⟨"DEC (HL)", 1, [12], ⟨.comp, .one, .comp, .keep⟩, .plain .dec_mHL⟩,
  some ⟨"LD (HL), n8", 2, [12], ⟨.keep, .keep, .keep, .keep⟩, .imm8 .ld_mHL_n8⟩,
  some ⟨"SCF", 1, [4], ⟨.keep, .zero, .zero, .one⟩, .plain .scf⟩,
  some ⟨"JR C, e8", 2, [12, 8], ⟨.keep, .keep, .keep, .keep⟩, .imm8 .jr_c_e8⟩,
  some ⟨"ADD HL, SP", 1, [8], ⟨.keep, .zero, .comp, .comp⟩, .plain .add_hl_sp⟩,
  some ⟨"LD A, (HL-)", 1, [8], ⟨.keep, .keep, .keep, .keep⟩, .plain .ld_a_mHLdec⟩,
  some ⟨"DEC SP", 1, [8], ⟨.keep, .keep, .keep, .keep⟩, .plain .dec_sp⟩,
  some ⟨"INC A", 1, [4], ⟨.comp, .zero, .comp, .keep⟩, .plain .inc_a⟩,
  some ⟨"DEC A", 1, [4], ⟨.comp, .one, .comp, .keep⟩, .plain .dec_a⟩,
  some ⟨"LD A, n8", 2, [8], ⟨.keep, .keep, .keep, .keep⟩, .imm8 .ld_a_n8⟩,
  some ⟨"CCF", 1, [4], ⟨.keep, .zero, .zero, .comp⟩, .plain .ccf⟩ ]

/-- The unprefixed table (30_encoding.md R83), bytes 0x40 to 0x4F. -/
def unprefixedRow4 : List (Option Opcode) := [
  some ⟨"LD B, B", 1, [4], ⟨.keep, .keep, .keep, .keep⟩, .plain .ld_b_b⟩,
  some ⟨"LD B, C", 1, [4], ⟨.keep, .keep, .keep, .keep⟩, .plain .ld_b_c⟩,
  some ⟨"LD B, D", 1, [4], ⟨.keep, .keep, .keep, .keep⟩, .plain .ld_b_d⟩,
  some ⟨"LD B, E", 1, [4], ⟨.keep, .keep, .keep, .keep⟩, .plain .ld_b_e⟩,
  some ⟨"LD B, H", 1, [4], ⟨.keep, .keep, .keep, .keep⟩, .plain .ld_b_h⟩,
  some ⟨"LD B, L", 1, [4], ⟨.keep, .keep, .keep, .keep⟩, .plain .ld_b_l⟩,
  some ⟨"LD B, (HL)", 1, [8], ⟨.keep, .keep, .keep, .keep⟩, .plain .ld_b_mHL⟩,
  some ⟨"LD B, A", 1, [4], ⟨.keep, .keep, .keep, .keep⟩, .plain .ld_b_a⟩,
  some ⟨"LD C, B", 1, [4], ⟨.keep, .keep, .keep, .keep⟩, .plain .ld_c_b⟩,
  some ⟨"LD C, C", 1, [4], ⟨.keep, .keep, .keep, .keep⟩, .plain .ld_c_c⟩,
  some ⟨"LD C, D", 1, [4], ⟨.keep, .keep, .keep, .keep⟩, .plain .ld_c_d⟩,
  some ⟨"LD C, E", 1, [4], ⟨.keep, .keep, .keep, .keep⟩, .plain .ld_c_e⟩,
  some ⟨"LD C, H", 1, [4], ⟨.keep, .keep, .keep, .keep⟩, .plain .ld_c_h⟩,
  some ⟨"LD C, L", 1, [4], ⟨.keep, .keep, .keep, .keep⟩, .plain .ld_c_l⟩,
  some ⟨"LD C, (HL)", 1, [8], ⟨.keep, .keep, .keep, .keep⟩, .plain .ld_c_mHL⟩,
  some ⟨"LD C, A", 1, [4], ⟨.keep, .keep, .keep, .keep⟩, .plain .ld_c_a⟩ ]

/-- The unprefixed table (30_encoding.md R83), bytes 0x50 to 0x5F. -/
def unprefixedRow5 : List (Option Opcode) := [
  some ⟨"LD D, B", 1, [4], ⟨.keep, .keep, .keep, .keep⟩, .plain .ld_d_b⟩,
  some ⟨"LD D, C", 1, [4], ⟨.keep, .keep, .keep, .keep⟩, .plain .ld_d_c⟩,
  some ⟨"LD D, D", 1, [4], ⟨.keep, .keep, .keep, .keep⟩, .plain .ld_d_d⟩,
  some ⟨"LD D, E", 1, [4], ⟨.keep, .keep, .keep, .keep⟩, .plain .ld_d_e⟩,
  some ⟨"LD D, H", 1, [4], ⟨.keep, .keep, .keep, .keep⟩, .plain .ld_d_h⟩,
  some ⟨"LD D, L", 1, [4], ⟨.keep, .keep, .keep, .keep⟩, .plain .ld_d_l⟩,
  some ⟨"LD D, (HL)", 1, [8], ⟨.keep, .keep, .keep, .keep⟩, .plain .ld_d_mHL⟩,
  some ⟨"LD D, A", 1, [4], ⟨.keep, .keep, .keep, .keep⟩, .plain .ld_d_a⟩,
  some ⟨"LD E, B", 1, [4], ⟨.keep, .keep, .keep, .keep⟩, .plain .ld_e_b⟩,
  some ⟨"LD E, C", 1, [4], ⟨.keep, .keep, .keep, .keep⟩, .plain .ld_e_c⟩,
  some ⟨"LD E, D", 1, [4], ⟨.keep, .keep, .keep, .keep⟩, .plain .ld_e_d⟩,
  some ⟨"LD E, E", 1, [4], ⟨.keep, .keep, .keep, .keep⟩, .plain .ld_e_e⟩,
  some ⟨"LD E, H", 1, [4], ⟨.keep, .keep, .keep, .keep⟩, .plain .ld_e_h⟩,
  some ⟨"LD E, L", 1, [4], ⟨.keep, .keep, .keep, .keep⟩, .plain .ld_e_l⟩,
  some ⟨"LD E, (HL)", 1, [8], ⟨.keep, .keep, .keep, .keep⟩, .plain .ld_e_mHL⟩,
  some ⟨"LD E, A", 1, [4], ⟨.keep, .keep, .keep, .keep⟩, .plain .ld_e_a⟩ ]

/-- The unprefixed table (30_encoding.md R83), bytes 0x60 to 0x6F. -/
def unprefixedRow6 : List (Option Opcode) := [
  some ⟨"LD H, B", 1, [4], ⟨.keep, .keep, .keep, .keep⟩, .plain .ld_h_b⟩,
  some ⟨"LD H, C", 1, [4], ⟨.keep, .keep, .keep, .keep⟩, .plain .ld_h_c⟩,
  some ⟨"LD H, D", 1, [4], ⟨.keep, .keep, .keep, .keep⟩, .plain .ld_h_d⟩,
  some ⟨"LD H, E", 1, [4], ⟨.keep, .keep, .keep, .keep⟩, .plain .ld_h_e⟩,
  some ⟨"LD H, H", 1, [4], ⟨.keep, .keep, .keep, .keep⟩, .plain .ld_h_h⟩,
  some ⟨"LD H, L", 1, [4], ⟨.keep, .keep, .keep, .keep⟩, .plain .ld_h_l⟩,
  some ⟨"LD H, (HL)", 1, [8], ⟨.keep, .keep, .keep, .keep⟩, .plain .ld_h_mHL⟩,
  some ⟨"LD H, A", 1, [4], ⟨.keep, .keep, .keep, .keep⟩, .plain .ld_h_a⟩,
  some ⟨"LD L, B", 1, [4], ⟨.keep, .keep, .keep, .keep⟩, .plain .ld_l_b⟩,
  some ⟨"LD L, C", 1, [4], ⟨.keep, .keep, .keep, .keep⟩, .plain .ld_l_c⟩,
  some ⟨"LD L, D", 1, [4], ⟨.keep, .keep, .keep, .keep⟩, .plain .ld_l_d⟩,
  some ⟨"LD L, E", 1, [4], ⟨.keep, .keep, .keep, .keep⟩, .plain .ld_l_e⟩,
  some ⟨"LD L, H", 1, [4], ⟨.keep, .keep, .keep, .keep⟩, .plain .ld_l_h⟩,
  some ⟨"LD L, L", 1, [4], ⟨.keep, .keep, .keep, .keep⟩, .plain .ld_l_l⟩,
  some ⟨"LD L, (HL)", 1, [8], ⟨.keep, .keep, .keep, .keep⟩, .plain .ld_l_mHL⟩,
  some ⟨"LD L, A", 1, [4], ⟨.keep, .keep, .keep, .keep⟩, .plain .ld_l_a⟩ ]

/-- The unprefixed table (30_encoding.md R83), bytes 0x70 to 0x7F. -/
def unprefixedRow7 : List (Option Opcode) := [
  some ⟨"LD (HL), B", 1, [8], ⟨.keep, .keep, .keep, .keep⟩, .plain .ld_mHL_b⟩,
  some ⟨"LD (HL), C", 1, [8], ⟨.keep, .keep, .keep, .keep⟩, .plain .ld_mHL_c⟩,
  some ⟨"LD (HL), D", 1, [8], ⟨.keep, .keep, .keep, .keep⟩, .plain .ld_mHL_d⟩,
  some ⟨"LD (HL), E", 1, [8], ⟨.keep, .keep, .keep, .keep⟩, .plain .ld_mHL_e⟩,
  some ⟨"LD (HL), H", 1, [8], ⟨.keep, .keep, .keep, .keep⟩, .plain .ld_mHL_h⟩,
  some ⟨"LD (HL), L", 1, [8], ⟨.keep, .keep, .keep, .keep⟩, .plain .ld_mHL_l⟩,
  some ⟨"HALT", 1, [4], ⟨.keep, .keep, .keep, .keep⟩, .plain .halt⟩,
  some ⟨"LD (HL), A", 1, [8], ⟨.keep, .keep, .keep, .keep⟩, .plain .ld_mHL_a⟩,
  some ⟨"LD A, B", 1, [4], ⟨.keep, .keep, .keep, .keep⟩, .plain .ld_a_b⟩,
  some ⟨"LD A, C", 1, [4], ⟨.keep, .keep, .keep, .keep⟩, .plain .ld_a_c⟩,
  some ⟨"LD A, D", 1, [4], ⟨.keep, .keep, .keep, .keep⟩, .plain .ld_a_d⟩,
  some ⟨"LD A, E", 1, [4], ⟨.keep, .keep, .keep, .keep⟩, .plain .ld_a_e⟩,
  some ⟨"LD A, H", 1, [4], ⟨.keep, .keep, .keep, .keep⟩, .plain .ld_a_h⟩,
  some ⟨"LD A, L", 1, [4], ⟨.keep, .keep, .keep, .keep⟩, .plain .ld_a_l⟩,
  some ⟨"LD A, (HL)", 1, [8], ⟨.keep, .keep, .keep, .keep⟩, .plain .ld_a_mHL⟩,
  some ⟨"LD A, A", 1, [4], ⟨.keep, .keep, .keep, .keep⟩, .plain .ld_a_a⟩ ]

/-- The unprefixed table (30_encoding.md R83), bytes 0x80 to 0x8F. -/
def unprefixedRow8 : List (Option Opcode) := [
  some ⟨"ADD A, B", 1, [4], ⟨.comp, .zero, .comp, .comp⟩, .plain .add_a_b⟩,
  some ⟨"ADD A, C", 1, [4], ⟨.comp, .zero, .comp, .comp⟩, .plain .add_a_c⟩,
  some ⟨"ADD A, D", 1, [4], ⟨.comp, .zero, .comp, .comp⟩, .plain .add_a_d⟩,
  some ⟨"ADD A, E", 1, [4], ⟨.comp, .zero, .comp, .comp⟩, .plain .add_a_e⟩,
  some ⟨"ADD A, H", 1, [4], ⟨.comp, .zero, .comp, .comp⟩, .plain .add_a_h⟩,
  some ⟨"ADD A, L", 1, [4], ⟨.comp, .zero, .comp, .comp⟩, .plain .add_a_l⟩,
  some ⟨"ADD A, (HL)", 1, [8], ⟨.comp, .zero, .comp, .comp⟩, .plain .add_a_mHL⟩,
  some ⟨"ADD A, A", 1, [4], ⟨.comp, .zero, .comp, .comp⟩, .plain .add_a_a⟩,
  some ⟨"ADC A, B", 1, [4], ⟨.comp, .zero, .comp, .comp⟩, .plain .adc_a_b⟩,
  some ⟨"ADC A, C", 1, [4], ⟨.comp, .zero, .comp, .comp⟩, .plain .adc_a_c⟩,
  some ⟨"ADC A, D", 1, [4], ⟨.comp, .zero, .comp, .comp⟩, .plain .adc_a_d⟩,
  some ⟨"ADC A, E", 1, [4], ⟨.comp, .zero, .comp, .comp⟩, .plain .adc_a_e⟩,
  some ⟨"ADC A, H", 1, [4], ⟨.comp, .zero, .comp, .comp⟩, .plain .adc_a_h⟩,
  some ⟨"ADC A, L", 1, [4], ⟨.comp, .zero, .comp, .comp⟩, .plain .adc_a_l⟩,
  some ⟨"ADC A, (HL)", 1, [8], ⟨.comp, .zero, .comp, .comp⟩, .plain .adc_a_mHL⟩,
  some ⟨"ADC A, A", 1, [4], ⟨.comp, .zero, .comp, .comp⟩, .plain .adc_a_a⟩ ]

/-- The unprefixed table (30_encoding.md R83), bytes 0x90 to 0x9F. -/
def unprefixedRow9 : List (Option Opcode) := [
  some ⟨"SUB A, B", 1, [4], ⟨.comp, .one, .comp, .comp⟩, .plain .sub_a_b⟩,
  some ⟨"SUB A, C", 1, [4], ⟨.comp, .one, .comp, .comp⟩, .plain .sub_a_c⟩,
  some ⟨"SUB A, D", 1, [4], ⟨.comp, .one, .comp, .comp⟩, .plain .sub_a_d⟩,
  some ⟨"SUB A, E", 1, [4], ⟨.comp, .one, .comp, .comp⟩, .plain .sub_a_e⟩,
  some ⟨"SUB A, H", 1, [4], ⟨.comp, .one, .comp, .comp⟩, .plain .sub_a_h⟩,
  some ⟨"SUB A, L", 1, [4], ⟨.comp, .one, .comp, .comp⟩, .plain .sub_a_l⟩,
  some ⟨"SUB A, (HL)", 1, [8], ⟨.comp, .one, .comp, .comp⟩, .plain .sub_a_mHL⟩,
  some ⟨"SUB A, A", 1, [4], ⟨.comp, .one, .comp, .comp⟩, .plain .sub_a_a⟩,
  some ⟨"SBC A, B", 1, [4], ⟨.comp, .one, .comp, .comp⟩, .plain .sbc_a_b⟩,
  some ⟨"SBC A, C", 1, [4], ⟨.comp, .one, .comp, .comp⟩, .plain .sbc_a_c⟩,
  some ⟨"SBC A, D", 1, [4], ⟨.comp, .one, .comp, .comp⟩, .plain .sbc_a_d⟩,
  some ⟨"SBC A, E", 1, [4], ⟨.comp, .one, .comp, .comp⟩, .plain .sbc_a_e⟩,
  some ⟨"SBC A, H", 1, [4], ⟨.comp, .one, .comp, .comp⟩, .plain .sbc_a_h⟩,
  some ⟨"SBC A, L", 1, [4], ⟨.comp, .one, .comp, .comp⟩, .plain .sbc_a_l⟩,
  some ⟨"SBC A, (HL)", 1, [8], ⟨.comp, .one, .comp, .comp⟩, .plain .sbc_a_mHL⟩,
  some ⟨"SBC A, A", 1, [4], ⟨.comp, .one, .comp, .comp⟩, .plain .sbc_a_a⟩ ]

/-- The unprefixed table (30_encoding.md R83), bytes 0xA0 to 0xAF. -/
def unprefixedRowA : List (Option Opcode) := [
  some ⟨"AND A, B", 1, [4], ⟨.comp, .zero, .one, .zero⟩, .plain .and_a_b⟩,
  some ⟨"AND A, C", 1, [4], ⟨.comp, .zero, .one, .zero⟩, .plain .and_a_c⟩,
  some ⟨"AND A, D", 1, [4], ⟨.comp, .zero, .one, .zero⟩, .plain .and_a_d⟩,
  some ⟨"AND A, E", 1, [4], ⟨.comp, .zero, .one, .zero⟩, .plain .and_a_e⟩,
  some ⟨"AND A, H", 1, [4], ⟨.comp, .zero, .one, .zero⟩, .plain .and_a_h⟩,
  some ⟨"AND A, L", 1, [4], ⟨.comp, .zero, .one, .zero⟩, .plain .and_a_l⟩,
  some ⟨"AND A, (HL)", 1, [8], ⟨.comp, .zero, .one, .zero⟩, .plain .and_a_mHL⟩,
  some ⟨"AND A, A", 1, [4], ⟨.comp, .zero, .one, .zero⟩, .plain .and_a_a⟩,
  some ⟨"XOR A, B", 1, [4], ⟨.comp, .zero, .zero, .zero⟩, .plain .xor_a_b⟩,
  some ⟨"XOR A, C", 1, [4], ⟨.comp, .zero, .zero, .zero⟩, .plain .xor_a_c⟩,
  some ⟨"XOR A, D", 1, [4], ⟨.comp, .zero, .zero, .zero⟩, .plain .xor_a_d⟩,
  some ⟨"XOR A, E", 1, [4], ⟨.comp, .zero, .zero, .zero⟩, .plain .xor_a_e⟩,
  some ⟨"XOR A, H", 1, [4], ⟨.comp, .zero, .zero, .zero⟩, .plain .xor_a_h⟩,
  some ⟨"XOR A, L", 1, [4], ⟨.comp, .zero, .zero, .zero⟩, .plain .xor_a_l⟩,
  some ⟨"XOR A, (HL)", 1, [8], ⟨.comp, .zero, .zero, .zero⟩, .plain .xor_a_mHL⟩,
  some ⟨"XOR A, A", 1, [4], ⟨.comp, .zero, .zero, .zero⟩, .plain .xor_a_a⟩ ]

/-- The unprefixed table (30_encoding.md R83), bytes 0xB0 to 0xBF. -/
def unprefixedRowB : List (Option Opcode) := [
  some ⟨"OR A, B", 1, [4], ⟨.comp, .zero, .zero, .zero⟩, .plain .or_a_b⟩,
  some ⟨"OR A, C", 1, [4], ⟨.comp, .zero, .zero, .zero⟩, .plain .or_a_c⟩,
  some ⟨"OR A, D", 1, [4], ⟨.comp, .zero, .zero, .zero⟩, .plain .or_a_d⟩,
  some ⟨"OR A, E", 1, [4], ⟨.comp, .zero, .zero, .zero⟩, .plain .or_a_e⟩,
  some ⟨"OR A, H", 1, [4], ⟨.comp, .zero, .zero, .zero⟩, .plain .or_a_h⟩,
  some ⟨"OR A, L", 1, [4], ⟨.comp, .zero, .zero, .zero⟩, .plain .or_a_l⟩,
  some ⟨"OR A, (HL)", 1, [8], ⟨.comp, .zero, .zero, .zero⟩, .plain .or_a_mHL⟩,
  some ⟨"OR A, A", 1, [4], ⟨.comp, .zero, .zero, .zero⟩, .plain .or_a_a⟩,
  some ⟨"CP A, B", 1, [4], ⟨.comp, .one, .comp, .comp⟩, .plain .cp_a_b⟩,
  some ⟨"CP A, C", 1, [4], ⟨.comp, .one, .comp, .comp⟩, .plain .cp_a_c⟩,
  some ⟨"CP A, D", 1, [4], ⟨.comp, .one, .comp, .comp⟩, .plain .cp_a_d⟩,
  some ⟨"CP A, E", 1, [4], ⟨.comp, .one, .comp, .comp⟩, .plain .cp_a_e⟩,
  some ⟨"CP A, H", 1, [4], ⟨.comp, .one, .comp, .comp⟩, .plain .cp_a_h⟩,
  some ⟨"CP A, L", 1, [4], ⟨.comp, .one, .comp, .comp⟩, .plain .cp_a_l⟩,
  some ⟨"CP A, (HL)", 1, [8], ⟨.comp, .one, .comp, .comp⟩, .plain .cp_a_mHL⟩,
  some ⟨"CP A, A", 1, [4], ⟨.comp, .one, .comp, .comp⟩, .plain .cp_a_a⟩ ]

/-- The unprefixed table (30_encoding.md R83), bytes 0xC0 to 0xCF. -/
def unprefixedRowC : List (Option Opcode) := [
  some ⟨"RET NZ", 1, [20, 8], ⟨.keep, .keep, .keep, .keep⟩, .plain .ret_nz⟩,
  some ⟨"POP BC", 1, [12], ⟨.keep, .keep, .keep, .keep⟩, .plain .pop_bc⟩,
  some ⟨"JP NZ, a16", 3, [16, 12], ⟨.keep, .keep, .keep, .keep⟩, .imm16 .jp_nz_a16⟩,
  some ⟨"JP a16", 3, [16], ⟨.keep, .keep, .keep, .keep⟩, .imm16 .jp_a16⟩,
  some ⟨"CALL NZ, a16", 3, [24, 12], ⟨.keep, .keep, .keep, .keep⟩, .imm16 .call_nz_a16⟩,
  some ⟨"PUSH BC", 1, [16], ⟨.keep, .keep, .keep, .keep⟩, .plain .push_bc⟩,
  some ⟨"ADD A, n8", 2, [8], ⟨.comp, .zero, .comp, .comp⟩, .imm8 .add_a_n8⟩,
  some ⟨"RST 0x00", 1, [16], ⟨.keep, .keep, .keep, .keep⟩, .plain .rst_00⟩,
  some ⟨"RET Z", 1, [20, 8], ⟨.keep, .keep, .keep, .keep⟩, .plain .ret_z⟩,
  some ⟨"RET", 1, [16], ⟨.keep, .keep, .keep, .keep⟩, .plain .ret⟩,
  some ⟨"JP Z, a16", 3, [16, 12], ⟨.keep, .keep, .keep, .keep⟩, .imm16 .jp_z_a16⟩,
  some ⟨"PREFIX", 1, [], ⟨.keep, .keep, .keep, .keep⟩, .marker⟩,
  some ⟨"CALL Z, a16", 3, [24, 12], ⟨.keep, .keep, .keep, .keep⟩, .imm16 .call_z_a16⟩,
  some ⟨"CALL a16", 3, [24], ⟨.keep, .keep, .keep, .keep⟩, .imm16 .call_a16⟩,
  some ⟨"ADC A, n8", 2, [8], ⟨.comp, .zero, .comp, .comp⟩, .imm8 .adc_a_n8⟩,
  some ⟨"RST 0x08", 1, [16], ⟨.keep, .keep, .keep, .keep⟩, .plain .rst_08⟩ ]

/-- The unprefixed table (30_encoding.md R83), bytes 0xD0 to 0xDF. -/
def unprefixedRowD : List (Option Opcode) := [
  some ⟨"RET NC", 1, [20, 8], ⟨.keep, .keep, .keep, .keep⟩, .plain .ret_nc⟩,
  some ⟨"POP DE", 1, [12], ⟨.keep, .keep, .keep, .keep⟩, .plain .pop_de⟩,
  some ⟨"JP NC, a16", 3, [16, 12], ⟨.keep, .keep, .keep, .keep⟩, .imm16 .jp_nc_a16⟩,
  none,
  some ⟨"CALL NC, a16", 3, [24, 12], ⟨.keep, .keep, .keep, .keep⟩, .imm16 .call_nc_a16⟩,
  some ⟨"PUSH DE", 1, [16], ⟨.keep, .keep, .keep, .keep⟩, .plain .push_de⟩,
  some ⟨"SUB A, n8", 2, [8], ⟨.comp, .one, .comp, .comp⟩, .imm8 .sub_a_n8⟩,
  some ⟨"RST 0x10", 1, [16], ⟨.keep, .keep, .keep, .keep⟩, .plain .rst_10⟩,
  some ⟨"RET C", 1, [20, 8], ⟨.keep, .keep, .keep, .keep⟩, .plain .ret_c⟩,
  some ⟨"RETI", 1, [16], ⟨.keep, .keep, .keep, .keep⟩, .plain .reti⟩,
  some ⟨"JP C, a16", 3, [16, 12], ⟨.keep, .keep, .keep, .keep⟩, .imm16 .jp_c_a16⟩,
  none,
  some ⟨"CALL C, a16", 3, [24, 12], ⟨.keep, .keep, .keep, .keep⟩, .imm16 .call_c_a16⟩,
  none,
  some ⟨"SBC A, n8", 2, [8], ⟨.comp, .one, .comp, .comp⟩, .imm8 .sbc_a_n8⟩,
  some ⟨"RST 0x18", 1, [16], ⟨.keep, .keep, .keep, .keep⟩, .plain .rst_18⟩ ]

/-- The unprefixed table (30_encoding.md R83), bytes 0xE0 to 0xEF. -/
def unprefixedRowE : List (Option Opcode) := [
  some ⟨"LDH (a8), A", 2, [12], ⟨.keep, .keep, .keep, .keep⟩, .imm8 .ldh_mA8_a⟩,
  some ⟨"POP HL", 1, [12], ⟨.keep, .keep, .keep, .keep⟩, .plain .pop_hl⟩,
  some ⟨"LD (C), A", 1, [8], ⟨.keep, .keep, .keep, .keep⟩, .plain .ld_mC_a⟩,
  none,
  none,
  some ⟨"PUSH HL", 1, [16], ⟨.keep, .keep, .keep, .keep⟩, .plain .push_hl⟩,
  some ⟨"AND A, n8", 2, [8], ⟨.comp, .zero, .one, .zero⟩, .imm8 .and_a_n8⟩,
  some ⟨"RST 0x20", 1, [16], ⟨.keep, .keep, .keep, .keep⟩, .plain .rst_20⟩,
  some ⟨"ADD SP, e8", 2, [16], ⟨.zero, .zero, .comp, .comp⟩, .imm8 .add_sp_e8⟩,
  some ⟨"JP HL", 1, [4], ⟨.keep, .keep, .keep, .keep⟩, .plain .jp_hl⟩,
  some ⟨"LD (a16), A", 3, [16], ⟨.keep, .keep, .keep, .keep⟩, .imm16 .ld_mA16_a⟩,
  none,
  none,
  none,
  some ⟨"XOR A, n8", 2, [8], ⟨.comp, .zero, .zero, .zero⟩, .imm8 .xor_a_n8⟩,
  some ⟨"RST 0x28", 1, [16], ⟨.keep, .keep, .keep, .keep⟩, .plain .rst_28⟩ ]

/-- The unprefixed table (30_encoding.md R83), bytes 0xF0 to 0xFF. -/
def unprefixedRowF : List (Option Opcode) := [
  some ⟨"LDH A, (a8)", 2, [12], ⟨.keep, .keep, .keep, .keep⟩, .imm8 .ldh_a_mA8⟩,
  some ⟨"POP AF", 1, [12], ⟨.comp, .comp, .comp, .comp⟩, .plain .pop_af⟩,
  some ⟨"LD A, (C)", 1, [8], ⟨.keep, .keep, .keep, .keep⟩, .plain .ld_a_mC⟩,
  some ⟨"DI", 1, [4], ⟨.keep, .keep, .keep, .keep⟩, .plain .di⟩,
  none,
  some ⟨"PUSH AF", 1, [16], ⟨.keep, .keep, .keep, .keep⟩, .plain .push_af⟩,
  some ⟨"OR A, n8", 2, [8], ⟨.comp, .zero, .zero, .zero⟩, .imm8 .or_a_n8⟩,
  some ⟨"RST 0x30", 1, [16], ⟨.keep, .keep, .keep, .keep⟩, .plain .rst_30⟩,
  some ⟨"LD HL, SP+e8", 2, [12], ⟨.zero, .zero, .comp, .comp⟩, .imm8 .ld_hl_spE8⟩,
  some ⟨"LD SP, HL", 1, [8], ⟨.keep, .keep, .keep, .keep⟩, .plain .ld_sp_hl⟩,
  some ⟨"LD A, (a16)", 3, [16], ⟨.keep, .keep, .keep, .keep⟩, .imm16 .ld_a_mA16⟩,
  some ⟨"EI", 1, [4], ⟨.keep, .keep, .keep, .keep⟩, .plain .ei⟩,
  none,
  none,
  some ⟨"CP A, n8", 2, [8], ⟨.comp, .one, .comp, .comp⟩, .imm8 .cp_a_n8⟩,
  some ⟨"RST 0x38", 1, [16], ⟨.keep, .keep, .keep, .keep⟩, .plain .rst_38⟩ ]

/-- The prefixed table (30_encoding.md R84), bytes 0x00 to 0x0F. -/
def prefixedRow0 : List (Option Opcode) := [
  some ⟨"RLC B", 2, [8], ⟨.comp, .zero, .zero, .comp⟩, .plain .rlc_b⟩,
  some ⟨"RLC C", 2, [8], ⟨.comp, .zero, .zero, .comp⟩, .plain .rlc_c⟩,
  some ⟨"RLC D", 2, [8], ⟨.comp, .zero, .zero, .comp⟩, .plain .rlc_d⟩,
  some ⟨"RLC E", 2, [8], ⟨.comp, .zero, .zero, .comp⟩, .plain .rlc_e⟩,
  some ⟨"RLC H", 2, [8], ⟨.comp, .zero, .zero, .comp⟩, .plain .rlc_h⟩,
  some ⟨"RLC L", 2, [8], ⟨.comp, .zero, .zero, .comp⟩, .plain .rlc_l⟩,
  some ⟨"RLC (HL)", 2, [16], ⟨.comp, .zero, .zero, .comp⟩, .plain .rlc_mHL⟩,
  some ⟨"RLC A", 2, [8], ⟨.comp, .zero, .zero, .comp⟩, .plain .rlc_a⟩,
  some ⟨"RRC B", 2, [8], ⟨.comp, .zero, .zero, .comp⟩, .plain .rrc_b⟩,
  some ⟨"RRC C", 2, [8], ⟨.comp, .zero, .zero, .comp⟩, .plain .rrc_c⟩,
  some ⟨"RRC D", 2, [8], ⟨.comp, .zero, .zero, .comp⟩, .plain .rrc_d⟩,
  some ⟨"RRC E", 2, [8], ⟨.comp, .zero, .zero, .comp⟩, .plain .rrc_e⟩,
  some ⟨"RRC H", 2, [8], ⟨.comp, .zero, .zero, .comp⟩, .plain .rrc_h⟩,
  some ⟨"RRC L", 2, [8], ⟨.comp, .zero, .zero, .comp⟩, .plain .rrc_l⟩,
  some ⟨"RRC (HL)", 2, [16], ⟨.comp, .zero, .zero, .comp⟩, .plain .rrc_mHL⟩,
  some ⟨"RRC A", 2, [8], ⟨.comp, .zero, .zero, .comp⟩, .plain .rrc_a⟩ ]

/-- The prefixed table (30_encoding.md R84), bytes 0x10 to 0x1F. -/
def prefixedRow1 : List (Option Opcode) := [
  some ⟨"RL B", 2, [8], ⟨.comp, .zero, .zero, .comp⟩, .plain .rl_b⟩,
  some ⟨"RL C", 2, [8], ⟨.comp, .zero, .zero, .comp⟩, .plain .rl_c⟩,
  some ⟨"RL D", 2, [8], ⟨.comp, .zero, .zero, .comp⟩, .plain .rl_d⟩,
  some ⟨"RL E", 2, [8], ⟨.comp, .zero, .zero, .comp⟩, .plain .rl_e⟩,
  some ⟨"RL H", 2, [8], ⟨.comp, .zero, .zero, .comp⟩, .plain .rl_h⟩,
  some ⟨"RL L", 2, [8], ⟨.comp, .zero, .zero, .comp⟩, .plain .rl_l⟩,
  some ⟨"RL (HL)", 2, [16], ⟨.comp, .zero, .zero, .comp⟩, .plain .rl_mHL⟩,
  some ⟨"RL A", 2, [8], ⟨.comp, .zero, .zero, .comp⟩, .plain .rl_a⟩,
  some ⟨"RR B", 2, [8], ⟨.comp, .zero, .zero, .comp⟩, .plain .rr_b⟩,
  some ⟨"RR C", 2, [8], ⟨.comp, .zero, .zero, .comp⟩, .plain .rr_c⟩,
  some ⟨"RR D", 2, [8], ⟨.comp, .zero, .zero, .comp⟩, .plain .rr_d⟩,
  some ⟨"RR E", 2, [8], ⟨.comp, .zero, .zero, .comp⟩, .plain .rr_e⟩,
  some ⟨"RR H", 2, [8], ⟨.comp, .zero, .zero, .comp⟩, .plain .rr_h⟩,
  some ⟨"RR L", 2, [8], ⟨.comp, .zero, .zero, .comp⟩, .plain .rr_l⟩,
  some ⟨"RR (HL)", 2, [16], ⟨.comp, .zero, .zero, .comp⟩, .plain .rr_mHL⟩,
  some ⟨"RR A", 2, [8], ⟨.comp, .zero, .zero, .comp⟩, .plain .rr_a⟩ ]

/-- The prefixed table (30_encoding.md R84), bytes 0x20 to 0x2F. -/
def prefixedRow2 : List (Option Opcode) := [
  some ⟨"SLA B", 2, [8], ⟨.comp, .zero, .zero, .comp⟩, .plain .sla_b⟩,
  some ⟨"SLA C", 2, [8], ⟨.comp, .zero, .zero, .comp⟩, .plain .sla_c⟩,
  some ⟨"SLA D", 2, [8], ⟨.comp, .zero, .zero, .comp⟩, .plain .sla_d⟩,
  some ⟨"SLA E", 2, [8], ⟨.comp, .zero, .zero, .comp⟩, .plain .sla_e⟩,
  some ⟨"SLA H", 2, [8], ⟨.comp, .zero, .zero, .comp⟩, .plain .sla_h⟩,
  some ⟨"SLA L", 2, [8], ⟨.comp, .zero, .zero, .comp⟩, .plain .sla_l⟩,
  some ⟨"SLA (HL)", 2, [16], ⟨.comp, .zero, .zero, .comp⟩, .plain .sla_mHL⟩,
  some ⟨"SLA A", 2, [8], ⟨.comp, .zero, .zero, .comp⟩, .plain .sla_a⟩,
  some ⟨"SRA B", 2, [8], ⟨.comp, .zero, .zero, .comp⟩, .plain .sra_b⟩,
  some ⟨"SRA C", 2, [8], ⟨.comp, .zero, .zero, .comp⟩, .plain .sra_c⟩,
  some ⟨"SRA D", 2, [8], ⟨.comp, .zero, .zero, .comp⟩, .plain .sra_d⟩,
  some ⟨"SRA E", 2, [8], ⟨.comp, .zero, .zero, .comp⟩, .plain .sra_e⟩,
  some ⟨"SRA H", 2, [8], ⟨.comp, .zero, .zero, .comp⟩, .plain .sra_h⟩,
  some ⟨"SRA L", 2, [8], ⟨.comp, .zero, .zero, .comp⟩, .plain .sra_l⟩,
  some ⟨"SRA (HL)", 2, [16], ⟨.comp, .zero, .zero, .comp⟩, .plain .sra_mHL⟩,
  some ⟨"SRA A", 2, [8], ⟨.comp, .zero, .zero, .comp⟩, .plain .sra_a⟩ ]

/-- The prefixed table (30_encoding.md R84), bytes 0x30 to 0x3F. -/
def prefixedRow3 : List (Option Opcode) := [
  some ⟨"SWAP B", 2, [8], ⟨.comp, .zero, .zero, .zero⟩, .plain .swap_b⟩,
  some ⟨"SWAP C", 2, [8], ⟨.comp, .zero, .zero, .zero⟩, .plain .swap_c⟩,
  some ⟨"SWAP D", 2, [8], ⟨.comp, .zero, .zero, .zero⟩, .plain .swap_d⟩,
  some ⟨"SWAP E", 2, [8], ⟨.comp, .zero, .zero, .zero⟩, .plain .swap_e⟩,
  some ⟨"SWAP H", 2, [8], ⟨.comp, .zero, .zero, .zero⟩, .plain .swap_h⟩,
  some ⟨"SWAP L", 2, [8], ⟨.comp, .zero, .zero, .zero⟩, .plain .swap_l⟩,
  some ⟨"SWAP (HL)", 2, [16], ⟨.comp, .zero, .zero, .zero⟩, .plain .swap_mHL⟩,
  some ⟨"SWAP A", 2, [8], ⟨.comp, .zero, .zero, .zero⟩, .plain .swap_a⟩,
  some ⟨"SRL B", 2, [8], ⟨.comp, .zero, .zero, .comp⟩, .plain .srl_b⟩,
  some ⟨"SRL C", 2, [8], ⟨.comp, .zero, .zero, .comp⟩, .plain .srl_c⟩,
  some ⟨"SRL D", 2, [8], ⟨.comp, .zero, .zero, .comp⟩, .plain .srl_d⟩,
  some ⟨"SRL E", 2, [8], ⟨.comp, .zero, .zero, .comp⟩, .plain .srl_e⟩,
  some ⟨"SRL H", 2, [8], ⟨.comp, .zero, .zero, .comp⟩, .plain .srl_h⟩,
  some ⟨"SRL L", 2, [8], ⟨.comp, .zero, .zero, .comp⟩, .plain .srl_l⟩,
  some ⟨"SRL (HL)", 2, [16], ⟨.comp, .zero, .zero, .comp⟩, .plain .srl_mHL⟩,
  some ⟨"SRL A", 2, [8], ⟨.comp, .zero, .zero, .comp⟩, .plain .srl_a⟩ ]

/-- The prefixed table (30_encoding.md R84), bytes 0x40 to 0x4F. -/
def prefixedRow4 : List (Option Opcode) := [
  some ⟨"BIT 0, B", 2, [8], ⟨.comp, .zero, .one, .keep⟩, .plain .bit_0_b⟩,
  some ⟨"BIT 0, C", 2, [8], ⟨.comp, .zero, .one, .keep⟩, .plain .bit_0_c⟩,
  some ⟨"BIT 0, D", 2, [8], ⟨.comp, .zero, .one, .keep⟩, .plain .bit_0_d⟩,
  some ⟨"BIT 0, E", 2, [8], ⟨.comp, .zero, .one, .keep⟩, .plain .bit_0_e⟩,
  some ⟨"BIT 0, H", 2, [8], ⟨.comp, .zero, .one, .keep⟩, .plain .bit_0_h⟩,
  some ⟨"BIT 0, L", 2, [8], ⟨.comp, .zero, .one, .keep⟩, .plain .bit_0_l⟩,
  some ⟨"BIT 0, (HL)", 2, [12], ⟨.comp, .zero, .one, .keep⟩, .plain .bit_0_mHL⟩,
  some ⟨"BIT 0, A", 2, [8], ⟨.comp, .zero, .one, .keep⟩, .plain .bit_0_a⟩,
  some ⟨"BIT 1, B", 2, [8], ⟨.comp, .zero, .one, .keep⟩, .plain .bit_1_b⟩,
  some ⟨"BIT 1, C", 2, [8], ⟨.comp, .zero, .one, .keep⟩, .plain .bit_1_c⟩,
  some ⟨"BIT 1, D", 2, [8], ⟨.comp, .zero, .one, .keep⟩, .plain .bit_1_d⟩,
  some ⟨"BIT 1, E", 2, [8], ⟨.comp, .zero, .one, .keep⟩, .plain .bit_1_e⟩,
  some ⟨"BIT 1, H", 2, [8], ⟨.comp, .zero, .one, .keep⟩, .plain .bit_1_h⟩,
  some ⟨"BIT 1, L", 2, [8], ⟨.comp, .zero, .one, .keep⟩, .plain .bit_1_l⟩,
  some ⟨"BIT 1, (HL)", 2, [12], ⟨.comp, .zero, .one, .keep⟩, .plain .bit_1_mHL⟩,
  some ⟨"BIT 1, A", 2, [8], ⟨.comp, .zero, .one, .keep⟩, .plain .bit_1_a⟩ ]

/-- The prefixed table (30_encoding.md R84), bytes 0x50 to 0x5F. -/
def prefixedRow5 : List (Option Opcode) := [
  some ⟨"BIT 2, B", 2, [8], ⟨.comp, .zero, .one, .keep⟩, .plain .bit_2_b⟩,
  some ⟨"BIT 2, C", 2, [8], ⟨.comp, .zero, .one, .keep⟩, .plain .bit_2_c⟩,
  some ⟨"BIT 2, D", 2, [8], ⟨.comp, .zero, .one, .keep⟩, .plain .bit_2_d⟩,
  some ⟨"BIT 2, E", 2, [8], ⟨.comp, .zero, .one, .keep⟩, .plain .bit_2_e⟩,
  some ⟨"BIT 2, H", 2, [8], ⟨.comp, .zero, .one, .keep⟩, .plain .bit_2_h⟩,
  some ⟨"BIT 2, L", 2, [8], ⟨.comp, .zero, .one, .keep⟩, .plain .bit_2_l⟩,
  some ⟨"BIT 2, (HL)", 2, [12], ⟨.comp, .zero, .one, .keep⟩, .plain .bit_2_mHL⟩,
  some ⟨"BIT 2, A", 2, [8], ⟨.comp, .zero, .one, .keep⟩, .plain .bit_2_a⟩,
  some ⟨"BIT 3, B", 2, [8], ⟨.comp, .zero, .one, .keep⟩, .plain .bit_3_b⟩,
  some ⟨"BIT 3, C", 2, [8], ⟨.comp, .zero, .one, .keep⟩, .plain .bit_3_c⟩,
  some ⟨"BIT 3, D", 2, [8], ⟨.comp, .zero, .one, .keep⟩, .plain .bit_3_d⟩,
  some ⟨"BIT 3, E", 2, [8], ⟨.comp, .zero, .one, .keep⟩, .plain .bit_3_e⟩,
  some ⟨"BIT 3, H", 2, [8], ⟨.comp, .zero, .one, .keep⟩, .plain .bit_3_h⟩,
  some ⟨"BIT 3, L", 2, [8], ⟨.comp, .zero, .one, .keep⟩, .plain .bit_3_l⟩,
  some ⟨"BIT 3, (HL)", 2, [12], ⟨.comp, .zero, .one, .keep⟩, .plain .bit_3_mHL⟩,
  some ⟨"BIT 3, A", 2, [8], ⟨.comp, .zero, .one, .keep⟩, .plain .bit_3_a⟩ ]

/-- The prefixed table (30_encoding.md R84), bytes 0x60 to 0x6F. -/
def prefixedRow6 : List (Option Opcode) := [
  some ⟨"BIT 4, B", 2, [8], ⟨.comp, .zero, .one, .keep⟩, .plain .bit_4_b⟩,
  some ⟨"BIT 4, C", 2, [8], ⟨.comp, .zero, .one, .keep⟩, .plain .bit_4_c⟩,
  some ⟨"BIT 4, D", 2, [8], ⟨.comp, .zero, .one, .keep⟩, .plain .bit_4_d⟩,
  some ⟨"BIT 4, E", 2, [8], ⟨.comp, .zero, .one, .keep⟩, .plain .bit_4_e⟩,
  some ⟨"BIT 4, H", 2, [8], ⟨.comp, .zero, .one, .keep⟩, .plain .bit_4_h⟩,
  some ⟨"BIT 4, L", 2, [8], ⟨.comp, .zero, .one, .keep⟩, .plain .bit_4_l⟩,
  some ⟨"BIT 4, (HL)", 2, [12], ⟨.comp, .zero, .one, .keep⟩, .plain .bit_4_mHL⟩,
  some ⟨"BIT 4, A", 2, [8], ⟨.comp, .zero, .one, .keep⟩, .plain .bit_4_a⟩,
  some ⟨"BIT 5, B", 2, [8], ⟨.comp, .zero, .one, .keep⟩, .plain .bit_5_b⟩,
  some ⟨"BIT 5, C", 2, [8], ⟨.comp, .zero, .one, .keep⟩, .plain .bit_5_c⟩,
  some ⟨"BIT 5, D", 2, [8], ⟨.comp, .zero, .one, .keep⟩, .plain .bit_5_d⟩,
  some ⟨"BIT 5, E", 2, [8], ⟨.comp, .zero, .one, .keep⟩, .plain .bit_5_e⟩,
  some ⟨"BIT 5, H", 2, [8], ⟨.comp, .zero, .one, .keep⟩, .plain .bit_5_h⟩,
  some ⟨"BIT 5, L", 2, [8], ⟨.comp, .zero, .one, .keep⟩, .plain .bit_5_l⟩,
  some ⟨"BIT 5, (HL)", 2, [12], ⟨.comp, .zero, .one, .keep⟩, .plain .bit_5_mHL⟩,
  some ⟨"BIT 5, A", 2, [8], ⟨.comp, .zero, .one, .keep⟩, .plain .bit_5_a⟩ ]

/-- The prefixed table (30_encoding.md R84), bytes 0x70 to 0x7F. -/
def prefixedRow7 : List (Option Opcode) := [
  some ⟨"BIT 6, B", 2, [8], ⟨.comp, .zero, .one, .keep⟩, .plain .bit_6_b⟩,
  some ⟨"BIT 6, C", 2, [8], ⟨.comp, .zero, .one, .keep⟩, .plain .bit_6_c⟩,
  some ⟨"BIT 6, D", 2, [8], ⟨.comp, .zero, .one, .keep⟩, .plain .bit_6_d⟩,
  some ⟨"BIT 6, E", 2, [8], ⟨.comp, .zero, .one, .keep⟩, .plain .bit_6_e⟩,
  some ⟨"BIT 6, H", 2, [8], ⟨.comp, .zero, .one, .keep⟩, .plain .bit_6_h⟩,
  some ⟨"BIT 6, L", 2, [8], ⟨.comp, .zero, .one, .keep⟩, .plain .bit_6_l⟩,
  some ⟨"BIT 6, (HL)", 2, [12], ⟨.comp, .zero, .one, .keep⟩, .plain .bit_6_mHL⟩,
  some ⟨"BIT 6, A", 2, [8], ⟨.comp, .zero, .one, .keep⟩, .plain .bit_6_a⟩,
  some ⟨"BIT 7, B", 2, [8], ⟨.comp, .zero, .one, .keep⟩, .plain .bit_7_b⟩,
  some ⟨"BIT 7, C", 2, [8], ⟨.comp, .zero, .one, .keep⟩, .plain .bit_7_c⟩,
  some ⟨"BIT 7, D", 2, [8], ⟨.comp, .zero, .one, .keep⟩, .plain .bit_7_d⟩,
  some ⟨"BIT 7, E", 2, [8], ⟨.comp, .zero, .one, .keep⟩, .plain .bit_7_e⟩,
  some ⟨"BIT 7, H", 2, [8], ⟨.comp, .zero, .one, .keep⟩, .plain .bit_7_h⟩,
  some ⟨"BIT 7, L", 2, [8], ⟨.comp, .zero, .one, .keep⟩, .plain .bit_7_l⟩,
  some ⟨"BIT 7, (HL)", 2, [12], ⟨.comp, .zero, .one, .keep⟩, .plain .bit_7_mHL⟩,
  some ⟨"BIT 7, A", 2, [8], ⟨.comp, .zero, .one, .keep⟩, .plain .bit_7_a⟩ ]

/-- The prefixed table (30_encoding.md R84), bytes 0x80 to 0x8F. -/
def prefixedRow8 : List (Option Opcode) := [
  some ⟨"RES 0, B", 2, [8], ⟨.keep, .keep, .keep, .keep⟩, .plain .res_0_b⟩,
  some ⟨"RES 0, C", 2, [8], ⟨.keep, .keep, .keep, .keep⟩, .plain .res_0_c⟩,
  some ⟨"RES 0, D", 2, [8], ⟨.keep, .keep, .keep, .keep⟩, .plain .res_0_d⟩,
  some ⟨"RES 0, E", 2, [8], ⟨.keep, .keep, .keep, .keep⟩, .plain .res_0_e⟩,
  some ⟨"RES 0, H", 2, [8], ⟨.keep, .keep, .keep, .keep⟩, .plain .res_0_h⟩,
  some ⟨"RES 0, L", 2, [8], ⟨.keep, .keep, .keep, .keep⟩, .plain .res_0_l⟩,
  some ⟨"RES 0, (HL)", 2, [16], ⟨.keep, .keep, .keep, .keep⟩, .plain .res_0_mHL⟩,
  some ⟨"RES 0, A", 2, [8], ⟨.keep, .keep, .keep, .keep⟩, .plain .res_0_a⟩,
  some ⟨"RES 1, B", 2, [8], ⟨.keep, .keep, .keep, .keep⟩, .plain .res_1_b⟩,
  some ⟨"RES 1, C", 2, [8], ⟨.keep, .keep, .keep, .keep⟩, .plain .res_1_c⟩,
  some ⟨"RES 1, D", 2, [8], ⟨.keep, .keep, .keep, .keep⟩, .plain .res_1_d⟩,
  some ⟨"RES 1, E", 2, [8], ⟨.keep, .keep, .keep, .keep⟩, .plain .res_1_e⟩,
  some ⟨"RES 1, H", 2, [8], ⟨.keep, .keep, .keep, .keep⟩, .plain .res_1_h⟩,
  some ⟨"RES 1, L", 2, [8], ⟨.keep, .keep, .keep, .keep⟩, .plain .res_1_l⟩,
  some ⟨"RES 1, (HL)", 2, [16], ⟨.keep, .keep, .keep, .keep⟩, .plain .res_1_mHL⟩,
  some ⟨"RES 1, A", 2, [8], ⟨.keep, .keep, .keep, .keep⟩, .plain .res_1_a⟩ ]

/-- The prefixed table (30_encoding.md R84), bytes 0x90 to 0x9F. -/
def prefixedRow9 : List (Option Opcode) := [
  some ⟨"RES 2, B", 2, [8], ⟨.keep, .keep, .keep, .keep⟩, .plain .res_2_b⟩,
  some ⟨"RES 2, C", 2, [8], ⟨.keep, .keep, .keep, .keep⟩, .plain .res_2_c⟩,
  some ⟨"RES 2, D", 2, [8], ⟨.keep, .keep, .keep, .keep⟩, .plain .res_2_d⟩,
  some ⟨"RES 2, E", 2, [8], ⟨.keep, .keep, .keep, .keep⟩, .plain .res_2_e⟩,
  some ⟨"RES 2, H", 2, [8], ⟨.keep, .keep, .keep, .keep⟩, .plain .res_2_h⟩,
  some ⟨"RES 2, L", 2, [8], ⟨.keep, .keep, .keep, .keep⟩, .plain .res_2_l⟩,
  some ⟨"RES 2, (HL)", 2, [16], ⟨.keep, .keep, .keep, .keep⟩, .plain .res_2_mHL⟩,
  some ⟨"RES 2, A", 2, [8], ⟨.keep, .keep, .keep, .keep⟩, .plain .res_2_a⟩,
  some ⟨"RES 3, B", 2, [8], ⟨.keep, .keep, .keep, .keep⟩, .plain .res_3_b⟩,
  some ⟨"RES 3, C", 2, [8], ⟨.keep, .keep, .keep, .keep⟩, .plain .res_3_c⟩,
  some ⟨"RES 3, D", 2, [8], ⟨.keep, .keep, .keep, .keep⟩, .plain .res_3_d⟩,
  some ⟨"RES 3, E", 2, [8], ⟨.keep, .keep, .keep, .keep⟩, .plain .res_3_e⟩,
  some ⟨"RES 3, H", 2, [8], ⟨.keep, .keep, .keep, .keep⟩, .plain .res_3_h⟩,
  some ⟨"RES 3, L", 2, [8], ⟨.keep, .keep, .keep, .keep⟩, .plain .res_3_l⟩,
  some ⟨"RES 3, (HL)", 2, [16], ⟨.keep, .keep, .keep, .keep⟩, .plain .res_3_mHL⟩,
  some ⟨"RES 3, A", 2, [8], ⟨.keep, .keep, .keep, .keep⟩, .plain .res_3_a⟩ ]

/-- The prefixed table (30_encoding.md R84), bytes 0xA0 to 0xAF. -/
def prefixedRowA : List (Option Opcode) := [
  some ⟨"RES 4, B", 2, [8], ⟨.keep, .keep, .keep, .keep⟩, .plain .res_4_b⟩,
  some ⟨"RES 4, C", 2, [8], ⟨.keep, .keep, .keep, .keep⟩, .plain .res_4_c⟩,
  some ⟨"RES 4, D", 2, [8], ⟨.keep, .keep, .keep, .keep⟩, .plain .res_4_d⟩,
  some ⟨"RES 4, E", 2, [8], ⟨.keep, .keep, .keep, .keep⟩, .plain .res_4_e⟩,
  some ⟨"RES 4, H", 2, [8], ⟨.keep, .keep, .keep, .keep⟩, .plain .res_4_h⟩,
  some ⟨"RES 4, L", 2, [8], ⟨.keep, .keep, .keep, .keep⟩, .plain .res_4_l⟩,
  some ⟨"RES 4, (HL)", 2, [16], ⟨.keep, .keep, .keep, .keep⟩, .plain .res_4_mHL⟩,
  some ⟨"RES 4, A", 2, [8], ⟨.keep, .keep, .keep, .keep⟩, .plain .res_4_a⟩,
  some ⟨"RES 5, B", 2, [8], ⟨.keep, .keep, .keep, .keep⟩, .plain .res_5_b⟩,
  some ⟨"RES 5, C", 2, [8], ⟨.keep, .keep, .keep, .keep⟩, .plain .res_5_c⟩,
  some ⟨"RES 5, D", 2, [8], ⟨.keep, .keep, .keep, .keep⟩, .plain .res_5_d⟩,
  some ⟨"RES 5, E", 2, [8], ⟨.keep, .keep, .keep, .keep⟩, .plain .res_5_e⟩,
  some ⟨"RES 5, H", 2, [8], ⟨.keep, .keep, .keep, .keep⟩, .plain .res_5_h⟩,
  some ⟨"RES 5, L", 2, [8], ⟨.keep, .keep, .keep, .keep⟩, .plain .res_5_l⟩,
  some ⟨"RES 5, (HL)", 2, [16], ⟨.keep, .keep, .keep, .keep⟩, .plain .res_5_mHL⟩,
  some ⟨"RES 5, A", 2, [8], ⟨.keep, .keep, .keep, .keep⟩, .plain .res_5_a⟩ ]

/-- The prefixed table (30_encoding.md R84), bytes 0xB0 to 0xBF. -/
def prefixedRowB : List (Option Opcode) := [
  some ⟨"RES 6, B", 2, [8], ⟨.keep, .keep, .keep, .keep⟩, .plain .res_6_b⟩,
  some ⟨"RES 6, C", 2, [8], ⟨.keep, .keep, .keep, .keep⟩, .plain .res_6_c⟩,
  some ⟨"RES 6, D", 2, [8], ⟨.keep, .keep, .keep, .keep⟩, .plain .res_6_d⟩,
  some ⟨"RES 6, E", 2, [8], ⟨.keep, .keep, .keep, .keep⟩, .plain .res_6_e⟩,
  some ⟨"RES 6, H", 2, [8], ⟨.keep, .keep, .keep, .keep⟩, .plain .res_6_h⟩,
  some ⟨"RES 6, L", 2, [8], ⟨.keep, .keep, .keep, .keep⟩, .plain .res_6_l⟩,
  some ⟨"RES 6, (HL)", 2, [16], ⟨.keep, .keep, .keep, .keep⟩, .plain .res_6_mHL⟩,
  some ⟨"RES 6, A", 2, [8], ⟨.keep, .keep, .keep, .keep⟩, .plain .res_6_a⟩,
  some ⟨"RES 7, B", 2, [8], ⟨.keep, .keep, .keep, .keep⟩, .plain .res_7_b⟩,
  some ⟨"RES 7, C", 2, [8], ⟨.keep, .keep, .keep, .keep⟩, .plain .res_7_c⟩,
  some ⟨"RES 7, D", 2, [8], ⟨.keep, .keep, .keep, .keep⟩, .plain .res_7_d⟩,
  some ⟨"RES 7, E", 2, [8], ⟨.keep, .keep, .keep, .keep⟩, .plain .res_7_e⟩,
  some ⟨"RES 7, H", 2, [8], ⟨.keep, .keep, .keep, .keep⟩, .plain .res_7_h⟩,
  some ⟨"RES 7, L", 2, [8], ⟨.keep, .keep, .keep, .keep⟩, .plain .res_7_l⟩,
  some ⟨"RES 7, (HL)", 2, [16], ⟨.keep, .keep, .keep, .keep⟩, .plain .res_7_mHL⟩,
  some ⟨"RES 7, A", 2, [8], ⟨.keep, .keep, .keep, .keep⟩, .plain .res_7_a⟩ ]

/-- The prefixed table (30_encoding.md R84), bytes 0xC0 to 0xCF. -/
def prefixedRowC : List (Option Opcode) := [
  some ⟨"SET 0, B", 2, [8], ⟨.keep, .keep, .keep, .keep⟩, .plain .set_0_b⟩,
  some ⟨"SET 0, C", 2, [8], ⟨.keep, .keep, .keep, .keep⟩, .plain .set_0_c⟩,
  some ⟨"SET 0, D", 2, [8], ⟨.keep, .keep, .keep, .keep⟩, .plain .set_0_d⟩,
  some ⟨"SET 0, E", 2, [8], ⟨.keep, .keep, .keep, .keep⟩, .plain .set_0_e⟩,
  some ⟨"SET 0, H", 2, [8], ⟨.keep, .keep, .keep, .keep⟩, .plain .set_0_h⟩,
  some ⟨"SET 0, L", 2, [8], ⟨.keep, .keep, .keep, .keep⟩, .plain .set_0_l⟩,
  some ⟨"SET 0, (HL)", 2, [16], ⟨.keep, .keep, .keep, .keep⟩, .plain .set_0_mHL⟩,
  some ⟨"SET 0, A", 2, [8], ⟨.keep, .keep, .keep, .keep⟩, .plain .set_0_a⟩,
  some ⟨"SET 1, B", 2, [8], ⟨.keep, .keep, .keep, .keep⟩, .plain .set_1_b⟩,
  some ⟨"SET 1, C", 2, [8], ⟨.keep, .keep, .keep, .keep⟩, .plain .set_1_c⟩,
  some ⟨"SET 1, D", 2, [8], ⟨.keep, .keep, .keep, .keep⟩, .plain .set_1_d⟩,
  some ⟨"SET 1, E", 2, [8], ⟨.keep, .keep, .keep, .keep⟩, .plain .set_1_e⟩,
  some ⟨"SET 1, H", 2, [8], ⟨.keep, .keep, .keep, .keep⟩, .plain .set_1_h⟩,
  some ⟨"SET 1, L", 2, [8], ⟨.keep, .keep, .keep, .keep⟩, .plain .set_1_l⟩,
  some ⟨"SET 1, (HL)", 2, [16], ⟨.keep, .keep, .keep, .keep⟩, .plain .set_1_mHL⟩,
  some ⟨"SET 1, A", 2, [8], ⟨.keep, .keep, .keep, .keep⟩, .plain .set_1_a⟩ ]

/-- The prefixed table (30_encoding.md R84), bytes 0xD0 to 0xDF. -/
def prefixedRowD : List (Option Opcode) := [
  some ⟨"SET 2, B", 2, [8], ⟨.keep, .keep, .keep, .keep⟩, .plain .set_2_b⟩,
  some ⟨"SET 2, C", 2, [8], ⟨.keep, .keep, .keep, .keep⟩, .plain .set_2_c⟩,
  some ⟨"SET 2, D", 2, [8], ⟨.keep, .keep, .keep, .keep⟩, .plain .set_2_d⟩,
  some ⟨"SET 2, E", 2, [8], ⟨.keep, .keep, .keep, .keep⟩, .plain .set_2_e⟩,
  some ⟨"SET 2, H", 2, [8], ⟨.keep, .keep, .keep, .keep⟩, .plain .set_2_h⟩,
  some ⟨"SET 2, L", 2, [8], ⟨.keep, .keep, .keep, .keep⟩, .plain .set_2_l⟩,
  some ⟨"SET 2, (HL)", 2, [16], ⟨.keep, .keep, .keep, .keep⟩, .plain .set_2_mHL⟩,
  some ⟨"SET 2, A", 2, [8], ⟨.keep, .keep, .keep, .keep⟩, .plain .set_2_a⟩,
  some ⟨"SET 3, B", 2, [8], ⟨.keep, .keep, .keep, .keep⟩, .plain .set_3_b⟩,
  some ⟨"SET 3, C", 2, [8], ⟨.keep, .keep, .keep, .keep⟩, .plain .set_3_c⟩,
  some ⟨"SET 3, D", 2, [8], ⟨.keep, .keep, .keep, .keep⟩, .plain .set_3_d⟩,
  some ⟨"SET 3, E", 2, [8], ⟨.keep, .keep, .keep, .keep⟩, .plain .set_3_e⟩,
  some ⟨"SET 3, H", 2, [8], ⟨.keep, .keep, .keep, .keep⟩, .plain .set_3_h⟩,
  some ⟨"SET 3, L", 2, [8], ⟨.keep, .keep, .keep, .keep⟩, .plain .set_3_l⟩,
  some ⟨"SET 3, (HL)", 2, [16], ⟨.keep, .keep, .keep, .keep⟩, .plain .set_3_mHL⟩,
  some ⟨"SET 3, A", 2, [8], ⟨.keep, .keep, .keep, .keep⟩, .plain .set_3_a⟩ ]

/-- The prefixed table (30_encoding.md R84), bytes 0xE0 to 0xEF. -/
def prefixedRowE : List (Option Opcode) := [
  some ⟨"SET 4, B", 2, [8], ⟨.keep, .keep, .keep, .keep⟩, .plain .set_4_b⟩,
  some ⟨"SET 4, C", 2, [8], ⟨.keep, .keep, .keep, .keep⟩, .plain .set_4_c⟩,
  some ⟨"SET 4, D", 2, [8], ⟨.keep, .keep, .keep, .keep⟩, .plain .set_4_d⟩,
  some ⟨"SET 4, E", 2, [8], ⟨.keep, .keep, .keep, .keep⟩, .plain .set_4_e⟩,
  some ⟨"SET 4, H", 2, [8], ⟨.keep, .keep, .keep, .keep⟩, .plain .set_4_h⟩,
  some ⟨"SET 4, L", 2, [8], ⟨.keep, .keep, .keep, .keep⟩, .plain .set_4_l⟩,
  some ⟨"SET 4, (HL)", 2, [16], ⟨.keep, .keep, .keep, .keep⟩, .plain .set_4_mHL⟩,
  some ⟨"SET 4, A", 2, [8], ⟨.keep, .keep, .keep, .keep⟩, .plain .set_4_a⟩,
  some ⟨"SET 5, B", 2, [8], ⟨.keep, .keep, .keep, .keep⟩, .plain .set_5_b⟩,
  some ⟨"SET 5, C", 2, [8], ⟨.keep, .keep, .keep, .keep⟩, .plain .set_5_c⟩,
  some ⟨"SET 5, D", 2, [8], ⟨.keep, .keep, .keep, .keep⟩, .plain .set_5_d⟩,
  some ⟨"SET 5, E", 2, [8], ⟨.keep, .keep, .keep, .keep⟩, .plain .set_5_e⟩,
  some ⟨"SET 5, H", 2, [8], ⟨.keep, .keep, .keep, .keep⟩, .plain .set_5_h⟩,
  some ⟨"SET 5, L", 2, [8], ⟨.keep, .keep, .keep, .keep⟩, .plain .set_5_l⟩,
  some ⟨"SET 5, (HL)", 2, [16], ⟨.keep, .keep, .keep, .keep⟩, .plain .set_5_mHL⟩,
  some ⟨"SET 5, A", 2, [8], ⟨.keep, .keep, .keep, .keep⟩, .plain .set_5_a⟩ ]

/-- The prefixed table (30_encoding.md R84), bytes 0xF0 to 0xFF. -/
def prefixedRowF : List (Option Opcode) := [
  some ⟨"SET 6, B", 2, [8], ⟨.keep, .keep, .keep, .keep⟩, .plain .set_6_b⟩,
  some ⟨"SET 6, C", 2, [8], ⟨.keep, .keep, .keep, .keep⟩, .plain .set_6_c⟩,
  some ⟨"SET 6, D", 2, [8], ⟨.keep, .keep, .keep, .keep⟩, .plain .set_6_d⟩,
  some ⟨"SET 6, E", 2, [8], ⟨.keep, .keep, .keep, .keep⟩, .plain .set_6_e⟩,
  some ⟨"SET 6, H", 2, [8], ⟨.keep, .keep, .keep, .keep⟩, .plain .set_6_h⟩,
  some ⟨"SET 6, L", 2, [8], ⟨.keep, .keep, .keep, .keep⟩, .plain .set_6_l⟩,
  some ⟨"SET 6, (HL)", 2, [16], ⟨.keep, .keep, .keep, .keep⟩, .plain .set_6_mHL⟩,
  some ⟨"SET 6, A", 2, [8], ⟨.keep, .keep, .keep, .keep⟩, .plain .set_6_a⟩,
  some ⟨"SET 7, B", 2, [8], ⟨.keep, .keep, .keep, .keep⟩, .plain .set_7_b⟩,
  some ⟨"SET 7, C", 2, [8], ⟨.keep, .keep, .keep, .keep⟩, .plain .set_7_c⟩,
  some ⟨"SET 7, D", 2, [8], ⟨.keep, .keep, .keep, .keep⟩, .plain .set_7_d⟩,
  some ⟨"SET 7, E", 2, [8], ⟨.keep, .keep, .keep, .keep⟩, .plain .set_7_e⟩,
  some ⟨"SET 7, H", 2, [8], ⟨.keep, .keep, .keep, .keep⟩, .plain .set_7_h⟩,
  some ⟨"SET 7, L", 2, [8], ⟨.keep, .keep, .keep, .keep⟩, .plain .set_7_l⟩,
  some ⟨"SET 7, (HL)", 2, [16], ⟨.keep, .keep, .keep, .keep⟩, .plain .set_7_mHL⟩,
  some ⟨"SET 7, A", 2, [8], ⟨.keep, .keep, .keep, .keep⟩, .plain .set_7_a⟩ ]
/-- The unprefixed table by its rows (30_encoding.md R83). -/
def unprefixedRows : List (List (Option Opcode)) :=
  [unprefixedRow0, unprefixedRow1, unprefixedRow2, unprefixedRow3, unprefixedRow4, unprefixedRow5, unprefixedRow6,
    unprefixedRow7] ++
  [unprefixedRow8, unprefixedRow9, unprefixedRowA, unprefixedRowB, unprefixedRowC, unprefixedRowD, unprefixedRowE,
    unprefixedRowF]

/-- The prefixed table by its rows (30_encoding.md R84). -/
def prefixedRows : List (List (Option Opcode)) :=
  [prefixedRow0, prefixedRow1, prefixedRow2, prefixedRow3, prefixedRow4, prefixedRow5, prefixedRow6, prefixedRow7] ++
  [prefixedRow8, prefixedRow9, prefixedRowA, prefixedRowB, prefixedRowC, prefixedRowD, prefixedRowE, prefixedRowF]

/-- The entry of a table for a byte `16*hi + lo` (30_encoding.md R83). -/
def tableEntry (rows : List (List (Option Opcode))) (b : Byte) : Option Opcode :=
  (rows.getD (b.toNat / 16) []).getD (b.toNat % 16) none

/-- `UNPREFIXED[b]` (10_state.md R34). -/
def UNPREFIXED (b : Byte) : Option Opcode := tableEntry unprefixedRows b

/-- `PREFIXED[b]` (10_state.md R34). -/
def PREFIXED (b : Byte) : Option Opcode := tableEntry prefixedRows b

/-- The prefix marker (30_encoding.md R79). -/
def prefixMarker : Byte := 0xCB#8

/-- `InstructionFromByte` without its address (30_encoding.md R92). -/
def opcodeFromByte (b : Byte) (prefixed : Bool) : Option Opcode := if prefixed then PREFIXED b else UNPREFIXED b

/-- The length of an instruction, from its first byte alone (30_encoding.md R82). -/
def lengthFromByte (b : Byte) : Option Nat :=
  if b = prefixMarker then some 2 else (UNPREFIXED b).map Opcode.len

/-! ## Decoding -/

/-- Why bytes decode to no instruction. -/
inductive DecodeError where
  /-- the byte has no defined meaning in the selected space (30_encoding.md R80, R92) -/
  | undefinedOpcode (prefixed : Bool) (b : Byte)
  /-- the bytes end before the instruction does -/
  | truncated
deriving DecidableEq, Repr

/-- What decoding ends in: the instruction and the bytes after it, or the reason there is none. -/
abbrev Decoded := Except DecodeError (Instr × List Byte)

/-- The instruction of a prefixed opcode byte (30_encoding.md R73, R92). -/
def decodePrefixed (b1 : Byte) (rest : List Byte) : Decoded :=
  match (opcodeFromByte b1 true).map Opcode.form with
  | some (.plain i) => .ok (i, rest)
  | _ => .error (.undefinedOpcode true b1)

/-- The instruction of an unprefixed opcode, its immediate in `rest` (30_encoding.md R74, R75). -/
def decodeForm (form : OpForm) (rest : List Byte) : Decoded :=
  match form, rest with
  | .plain i, _ => .ok (i, rest)
  | .imm8 mk, n :: rest' => .ok (mk n, rest')
  | .imm16 mk, lo :: hi :: rest' => .ok (mk (joinBytes hi lo), rest')
  | .marker, b1 :: rest' => decodePrefixed b1 rest'
  | _, _ => .error .truncated

/-- Decode the instruction at the head of the bytes (30_encoding.md R79, R91, R92). -/
def decode (bytes : List Byte) : Decoded :=
  match bytes with
  | [] => .error .truncated
  | b0 :: rest =>
    match opcodeFromByte b0 false with
    | none => .error (.undefinedOpcode false b0)
    | some op => decodeForm op.form rest

/-! ## Encoding -/

/-- The bytes of an instruction, first byte first (opcode_table.json, `encoding`; 30_encoding.md R66). -/
def encode (i : Instr) : List Byte :=
  match i with
  | .nop => [0x00#8]
  | .ld_bc_n16 n => [0x01#8, loByte n, hiByte n]
  | .ld_mBC_a => [0x02#8]
  | .inc_bc => [0x03#8]
  | .inc_b => [0x04#8]
  | .dec_b => [0x05#8]
  | .ld_b_n8 n => [0x06#8, n]
  | .rlca => [0x07#8]
  | .ld_mA16_sp a => [0x08#8, loByte a, hiByte a]
  | .add_hl_bc => [0x09#8]
  | .ld_a_mBC => [0x0A#8]
  | .dec_bc => [0x0B#8]
  | .inc_c => [0x0C#8]
  | .dec_c => [0x0D#8]
  | .ld_c_n8 n => [0x0E#8, n]
  | .rrca => [0x0F#8]
  | .stop_n8 n => [0x10#8, n]
  | .ld_de_n16 n => [0x11#8, loByte n, hiByte n]
  | .ld_mDE_a => [0x12#8]
  | .inc_de => [0x13#8]
  | .inc_d => [0x14#8]
  | .dec_d => [0x15#8]
  | .ld_d_n8 n => [0x16#8, n]
  | .rla => [0x17#8]
  | .jr_e8 e => [0x18#8, e]
  | .add_hl_de => [0x19#8]
  | .ld_a_mDE => [0x1A#8]
  | .dec_de => [0x1B#8]
  | .inc_e => [0x1C#8]
  | .dec_e => [0x1D#8]
  | .ld_e_n8 n => [0x1E#8, n]
  | .rra => [0x1F#8]
  | .jr_nz_e8 e => [0x20#8, e]
  | .ld_hl_n16 n => [0x21#8, loByte n, hiByte n]
  | .ld_mHLinc_a => [0x22#8]
  | .inc_hl => [0x23#8]
  | .inc_h => [0x24#8]
  | .dec_h => [0x25#8]
  | .ld_h_n8 n => [0x26#8, n]
  | .daa => [0x27#8]
  | .jr_z_e8 e => [0x28#8, e]
  | .add_hl_hl => [0x29#8]
  | .ld_a_mHLinc => [0x2A#8]
  | .dec_hl => [0x2B#8]
  | .inc_l => [0x2C#8]
  | .dec_l => [0x2D#8]
  | .ld_l_n8 n => [0x2E#8, n]
  | .cpl => [0x2F#8]
  | .jr_nc_e8 e => [0x30#8, e]
  | .ld_sp_n16 n => [0x31#8, loByte n, hiByte n]
  | .ld_mHLdec_a => [0x32#8]
  | .inc_sp => [0x33#8]
  | .inc_mHL => [0x34#8]
  | .dec_mHL => [0x35#8]
  | .ld_mHL_n8 n => [0x36#8, n]
  | .scf => [0x37#8]
  | .jr_c_e8 e => [0x38#8, e]
  | .add_hl_sp => [0x39#8]
  | .ld_a_mHLdec => [0x3A#8]
  | .dec_sp => [0x3B#8]
  | .inc_a => [0x3C#8]
  | .dec_a => [0x3D#8]
  | .ld_a_n8 n => [0x3E#8, n]
  | .ccf => [0x3F#8]
  | .ld_b_b => [0x40#8]
  | .ld_b_c => [0x41#8]
  | .ld_b_d => [0x42#8]
  | .ld_b_e => [0x43#8]
  | .ld_b_h => [0x44#8]
  | .ld_b_l => [0x45#8]
  | .ld_b_mHL => [0x46#8]
  | .ld_b_a => [0x47#8]
  | .ld_c_b => [0x48#8]
  | .ld_c_c => [0x49#8]
  | .ld_c_d => [0x4A#8]
  | .ld_c_e => [0x4B#8]
  | .ld_c_h => [0x4C#8]
  | .ld_c_l => [0x4D#8]
  | .ld_c_mHL => [0x4E#8]
  | .ld_c_a => [0x4F#8]
  | .ld_d_b => [0x50#8]
  | .ld_d_c => [0x51#8]
  | .ld_d_d => [0x52#8]
  | .ld_d_e => [0x53#8]
  | .ld_d_h => [0x54#8]
  | .ld_d_l => [0x55#8]
  | .ld_d_mHL => [0x56#8]
  | .ld_d_a => [0x57#8]
  | .ld_e_b => [0x58#8]
  | .ld_e_c => [0x59#8]
  | .ld_e_d => [0x5A#8]
  | .ld_e_e => [0x5B#8]
  | .ld_e_h => [0x5C#8]
  | .ld_e_l => [0x5D#8]
  | .ld_e_mHL => [0x5E#8]
  | .ld_e_a => [0x5F#8]
  | .ld_h_b => [0x60#8]
  | .ld_h_c => [0x61#8]
  | .ld_h_d => [0x62#8]
  | .ld_h_e => [0x63#8]
  | .ld_h_h => [0x64#8]
  | .ld_h_l => [0x65#8]
  | .ld_h_mHL => [0x66#8]
  | .ld_h_a => [0x67#8]
  | .ld_l_b => [0x68#8]
  | .ld_l_c => [0x69#8]
  | .ld_l_d => [0x6A#8]
  | .ld_l_e => [0x6B#8]
  | .ld_l_h => [0x6C#8]
  | .ld_l_l => [0x6D#8]
  | .ld_l_mHL => [0x6E#8]
  | .ld_l_a => [0x6F#8]
  | .ld_mHL_b => [0x70#8]
  | .ld_mHL_c => [0x71#8]
  | .ld_mHL_d => [0x72#8]
  | .ld_mHL_e => [0x73#8]
  | .ld_mHL_h => [0x74#8]
  | .ld_mHL_l => [0x75#8]
  | .halt => [0x76#8]
  | .ld_mHL_a => [0x77#8]
  | .ld_a_b => [0x78#8]
  | .ld_a_c => [0x79#8]
  | .ld_a_d => [0x7A#8]
  | .ld_a_e => [0x7B#8]
  | .ld_a_h => [0x7C#8]
  | .ld_a_l => [0x7D#8]
  | .ld_a_mHL => [0x7E#8]
  | .ld_a_a => [0x7F#8]
  | .add_a_b => [0x80#8]
  | .add_a_c => [0x81#8]
  | .add_a_d => [0x82#8]
  | .add_a_e => [0x83#8]
  | .add_a_h => [0x84#8]
  | .add_a_l => [0x85#8]
  | .add_a_mHL => [0x86#8]
  | .add_a_a => [0x87#8]
  | .adc_a_b => [0x88#8]
  | .adc_a_c => [0x89#8]
  | .adc_a_d => [0x8A#8]
  | .adc_a_e => [0x8B#8]
  | .adc_a_h => [0x8C#8]
  | .adc_a_l => [0x8D#8]
  | .adc_a_mHL => [0x8E#8]
  | .adc_a_a => [0x8F#8]
  | .sub_a_b => [0x90#8]
  | .sub_a_c => [0x91#8]
  | .sub_a_d => [0x92#8]
  | .sub_a_e => [0x93#8]
  | .sub_a_h => [0x94#8]
  | .sub_a_l => [0x95#8]
  | .sub_a_mHL => [0x96#8]
  | .sub_a_a => [0x97#8]
  | .sbc_a_b => [0x98#8]
  | .sbc_a_c => [0x99#8]
  | .sbc_a_d => [0x9A#8]
  | .sbc_a_e => [0x9B#8]
  | .sbc_a_h => [0x9C#8]
  | .sbc_a_l => [0x9D#8]
  | .sbc_a_mHL => [0x9E#8]
  | .sbc_a_a => [0x9F#8]
  | .and_a_b => [0xA0#8]
  | .and_a_c => [0xA1#8]
  | .and_a_d => [0xA2#8]
  | .and_a_e => [0xA3#8]
  | .and_a_h => [0xA4#8]
  | .and_a_l => [0xA5#8]
  | .and_a_mHL => [0xA6#8]
  | .and_a_a => [0xA7#8]
  | .xor_a_b => [0xA8#8]
  | .xor_a_c => [0xA9#8]
  | .xor_a_d => [0xAA#8]
  | .xor_a_e => [0xAB#8]
  | .xor_a_h => [0xAC#8]
  | .xor_a_l => [0xAD#8]
  | .xor_a_mHL => [0xAE#8]
  | .xor_a_a => [0xAF#8]
  | .or_a_b => [0xB0#8]
  | .or_a_c => [0xB1#8]
  | .or_a_d => [0xB2#8]
  | .or_a_e => [0xB3#8]
  | .or_a_h => [0xB4#8]
  | .or_a_l => [0xB5#8]
  | .or_a_mHL => [0xB6#8]
  | .or_a_a => [0xB7#8]
  | .cp_a_b => [0xB8#8]
  | .cp_a_c => [0xB9#8]
  | .cp_a_d => [0xBA#8]
  | .cp_a_e => [0xBB#8]
  | .cp_a_h => [0xBC#8]
  | .cp_a_l => [0xBD#8]
  | .cp_a_mHL => [0xBE#8]
  | .cp_a_a => [0xBF#8]
  | .ret_nz => [0xC0#8]
  | .pop_bc => [0xC1#8]
  | .jp_nz_a16 a => [0xC2#8, loByte a, hiByte a]
  | .jp_a16 a => [0xC3#8, loByte a, hiByte a]
  | .call_nz_a16 a => [0xC4#8, loByte a, hiByte a]
  | .push_bc => [0xC5#8]
  | .add_a_n8 n => [0xC6#8, n]
  | .rst_00 => [0xC7#8]
  | .ret_z => [0xC8#8]
  | .ret => [0xC9#8]
  | .jp_z_a16 a => [0xCA#8, loByte a, hiByte a]
  | .prefixCB op2 => [0xCB#8, op2]
  | .call_z_a16 a => [0xCC#8, loByte a, hiByte a]
  | .call_a16 a => [0xCD#8, loByte a, hiByte a]
  | .adc_a_n8 n => [0xCE#8, n]
  | .rst_08 => [0xCF#8]
  | .ret_nc => [0xD0#8]
  | .pop_de => [0xD1#8]
  | .jp_nc_a16 a => [0xD2#8, loByte a, hiByte a]
  | .call_nc_a16 a => [0xD4#8, loByte a, hiByte a]
  | .push_de => [0xD5#8]
  | .sub_a_n8 n => [0xD6#8, n]
  | .rst_10 => [0xD7#8]
  | .ret_c => [0xD8#8]
  | .reti => [0xD9#8]
  | .jp_c_a16 a => [0xDA#8, loByte a, hiByte a]
  | .call_c_a16 a => [0xDC#8, loByte a, hiByte a]
  | .sbc_a_n8 n => [0xDE#8, n]
  | .rst_18 => [0xDF#8]
  | .ldh_mA8_a a => [0xE0#8, a]
  | .pop_hl => [0xE1#8]
  | .ld_mC_a => [0xE2#8]
  | .push_hl => [0xE5#8]
  | .and_a_n8 n => [0xE6#8, n]
  | .rst_20 => [0xE7#8]
  | .add_sp_e8 e => [0xE8#8, e]
  | .jp_hl => [0xE9#8]
  | .ld_mA16_a a => [0xEA#8, loByte a, hiByte a]
  | .xor_a_n8 n => [0xEE#8, n]
  | .rst_28 => [0xEF#8]
  | .ldh_a_mA8 a => [0xF0#8, a]
  | .pop_af => [0xF1#8]
  | .ld_a_mC => [0xF2#8]
  | .di => [0xF3#8]
  | .push_af => [0xF5#8]
  | .or_a_n8 n => [0xF6#8, n]
  | .rst_30 => [0xF7#8]
  | .ld_hl_spE8 e => [0xF8#8, e]
  | .ld_sp_hl => [0xF9#8]
  | .ld_a_mA16 a => [0xFA#8, loByte a, hiByte a]
  | .ei => [0xFB#8]
  | .cp_a_n8 n => [0xFE#8, n]
  | .rst_38 => [0xFF#8]
  | .rlc_b => [0xCB#8, 0x00#8]
  | .rlc_c => [0xCB#8, 0x01#8]
  | .rlc_d => [0xCB#8, 0x02#8]
  | .rlc_e => [0xCB#8, 0x03#8]
  | .rlc_h => [0xCB#8, 0x04#8]
  | .rlc_l => [0xCB#8, 0x05#8]
  | .rlc_mHL => [0xCB#8, 0x06#8]
  | .rlc_a => [0xCB#8, 0x07#8]
  | .rrc_b => [0xCB#8, 0x08#8]
  | .rrc_c => [0xCB#8, 0x09#8]
  | .rrc_d => [0xCB#8, 0x0A#8]
  | .rrc_e => [0xCB#8, 0x0B#8]
  | .rrc_h => [0xCB#8, 0x0C#8]
  | .rrc_l => [0xCB#8, 0x0D#8]
  | .rrc_mHL => [0xCB#8, 0x0E#8]
  | .rrc_a => [0xCB#8, 0x0F#8]
  | .rl_b => [0xCB#8, 0x10#8]
  | .rl_c => [0xCB#8, 0x11#8]
  | .rl_d => [0xCB#8, 0x12#8]
  | .rl_e => [0xCB#8, 0x13#8]
  | .rl_h => [0xCB#8, 0x14#8]
  | .rl_l => [0xCB#8, 0x15#8]
  | .rl_mHL => [0xCB#8, 0x16#8]
  | .rl_a => [0xCB#8, 0x17#8]
  | .rr_b => [0xCB#8, 0x18#8]
  | .rr_c => [0xCB#8, 0x19#8]
  | .rr_d => [0xCB#8, 0x1A#8]
  | .rr_e => [0xCB#8, 0x1B#8]
  | .rr_h => [0xCB#8, 0x1C#8]
  | .rr_l => [0xCB#8, 0x1D#8]
  | .rr_mHL => [0xCB#8, 0x1E#8]
  | .rr_a => [0xCB#8, 0x1F#8]
  | .sla_b => [0xCB#8, 0x20#8]
  | .sla_c => [0xCB#8, 0x21#8]
  | .sla_d => [0xCB#8, 0x22#8]
  | .sla_e => [0xCB#8, 0x23#8]
  | .sla_h => [0xCB#8, 0x24#8]
  | .sla_l => [0xCB#8, 0x25#8]
  | .sla_mHL => [0xCB#8, 0x26#8]
  | .sla_a => [0xCB#8, 0x27#8]
  | .sra_b => [0xCB#8, 0x28#8]
  | .sra_c => [0xCB#8, 0x29#8]
  | .sra_d => [0xCB#8, 0x2A#8]
  | .sra_e => [0xCB#8, 0x2B#8]
  | .sra_h => [0xCB#8, 0x2C#8]
  | .sra_l => [0xCB#8, 0x2D#8]
  | .sra_mHL => [0xCB#8, 0x2E#8]
  | .sra_a => [0xCB#8, 0x2F#8]
  | .swap_b => [0xCB#8, 0x30#8]
  | .swap_c => [0xCB#8, 0x31#8]
  | .swap_d => [0xCB#8, 0x32#8]
  | .swap_e => [0xCB#8, 0x33#8]
  | .swap_h => [0xCB#8, 0x34#8]
  | .swap_l => [0xCB#8, 0x35#8]
  | .swap_mHL => [0xCB#8, 0x36#8]
  | .swap_a => [0xCB#8, 0x37#8]
  | .srl_b => [0xCB#8, 0x38#8]
  | .srl_c => [0xCB#8, 0x39#8]
  | .srl_d => [0xCB#8, 0x3A#8]
  | .srl_e => [0xCB#8, 0x3B#8]
  | .srl_h => [0xCB#8, 0x3C#8]
  | .srl_l => [0xCB#8, 0x3D#8]
  | .srl_mHL => [0xCB#8, 0x3E#8]
  | .srl_a => [0xCB#8, 0x3F#8]
  | .bit_0_b => [0xCB#8, 0x40#8]
  | .bit_0_c => [0xCB#8, 0x41#8]
  | .bit_0_d => [0xCB#8, 0x42#8]
  | .bit_0_e => [0xCB#8, 0x43#8]
  | .bit_0_h => [0xCB#8, 0x44#8]
  | .bit_0_l => [0xCB#8, 0x45#8]
  | .bit_0_mHL => [0xCB#8, 0x46#8]
  | .bit_0_a => [0xCB#8, 0x47#8]
  | .bit_1_b => [0xCB#8, 0x48#8]
  | .bit_1_c => [0xCB#8, 0x49#8]
  | .bit_1_d => [0xCB#8, 0x4A#8]
  | .bit_1_e => [0xCB#8, 0x4B#8]
  | .bit_1_h => [0xCB#8, 0x4C#8]
  | .bit_1_l => [0xCB#8, 0x4D#8]
  | .bit_1_mHL => [0xCB#8, 0x4E#8]
  | .bit_1_a => [0xCB#8, 0x4F#8]
  | .bit_2_b => [0xCB#8, 0x50#8]
  | .bit_2_c => [0xCB#8, 0x51#8]
  | .bit_2_d => [0xCB#8, 0x52#8]
  | .bit_2_e => [0xCB#8, 0x53#8]
  | .bit_2_h => [0xCB#8, 0x54#8]
  | .bit_2_l => [0xCB#8, 0x55#8]
  | .bit_2_mHL => [0xCB#8, 0x56#8]
  | .bit_2_a => [0xCB#8, 0x57#8]
  | .bit_3_b => [0xCB#8, 0x58#8]
  | .bit_3_c => [0xCB#8, 0x59#8]
  | .bit_3_d => [0xCB#8, 0x5A#8]
  | .bit_3_e => [0xCB#8, 0x5B#8]
  | .bit_3_h => [0xCB#8, 0x5C#8]
  | .bit_3_l => [0xCB#8, 0x5D#8]
  | .bit_3_mHL => [0xCB#8, 0x5E#8]
  | .bit_3_a => [0xCB#8, 0x5F#8]
  | .bit_4_b => [0xCB#8, 0x60#8]
  | .bit_4_c => [0xCB#8, 0x61#8]
  | .bit_4_d => [0xCB#8, 0x62#8]
  | .bit_4_e => [0xCB#8, 0x63#8]
  | .bit_4_h => [0xCB#8, 0x64#8]
  | .bit_4_l => [0xCB#8, 0x65#8]
  | .bit_4_mHL => [0xCB#8, 0x66#8]
  | .bit_4_a => [0xCB#8, 0x67#8]
  | .bit_5_b => [0xCB#8, 0x68#8]
  | .bit_5_c => [0xCB#8, 0x69#8]
  | .bit_5_d => [0xCB#8, 0x6A#8]
  | .bit_5_e => [0xCB#8, 0x6B#8]
  | .bit_5_h => [0xCB#8, 0x6C#8]
  | .bit_5_l => [0xCB#8, 0x6D#8]
  | .bit_5_mHL => [0xCB#8, 0x6E#8]
  | .bit_5_a => [0xCB#8, 0x6F#8]
  | .bit_6_b => [0xCB#8, 0x70#8]
  | .bit_6_c => [0xCB#8, 0x71#8]
  | .bit_6_d => [0xCB#8, 0x72#8]
  | .bit_6_e => [0xCB#8, 0x73#8]
  | .bit_6_h => [0xCB#8, 0x74#8]
  | .bit_6_l => [0xCB#8, 0x75#8]
  | .bit_6_mHL => [0xCB#8, 0x76#8]
  | .bit_6_a => [0xCB#8, 0x77#8]
  | .bit_7_b => [0xCB#8, 0x78#8]
  | .bit_7_c => [0xCB#8, 0x79#8]
  | .bit_7_d => [0xCB#8, 0x7A#8]
  | .bit_7_e => [0xCB#8, 0x7B#8]
  | .bit_7_h => [0xCB#8, 0x7C#8]
  | .bit_7_l => [0xCB#8, 0x7D#8]
  | .bit_7_mHL => [0xCB#8, 0x7E#8]
  | .bit_7_a => [0xCB#8, 0x7F#8]
  | .res_0_b => [0xCB#8, 0x80#8]
  | .res_0_c => [0xCB#8, 0x81#8]
  | .res_0_d => [0xCB#8, 0x82#8]
  | .res_0_e => [0xCB#8, 0x83#8]
  | .res_0_h => [0xCB#8, 0x84#8]
  | .res_0_l => [0xCB#8, 0x85#8]
  | .res_0_mHL => [0xCB#8, 0x86#8]
  | .res_0_a => [0xCB#8, 0x87#8]
  | .res_1_b => [0xCB#8, 0x88#8]
  | .res_1_c => [0xCB#8, 0x89#8]
  | .res_1_d => [0xCB#8, 0x8A#8]
  | .res_1_e => [0xCB#8, 0x8B#8]
  | .res_1_h => [0xCB#8, 0x8C#8]
  | .res_1_l => [0xCB#8, 0x8D#8]
  | .res_1_mHL => [0xCB#8, 0x8E#8]
  | .res_1_a => [0xCB#8, 0x8F#8]
  | .res_2_b => [0xCB#8, 0x90#8]
  | .res_2_c => [0xCB#8, 0x91#8]
  | .res_2_d => [0xCB#8, 0x92#8]
  | .res_2_e => [0xCB#8, 0x93#8]
  | .res_2_h => [0xCB#8, 0x94#8]
  | .res_2_l => [0xCB#8, 0x95#8]
  | .res_2_mHL => [0xCB#8, 0x96#8]
  | .res_2_a => [0xCB#8, 0x97#8]
  | .res_3_b => [0xCB#8, 0x98#8]
  | .res_3_c => [0xCB#8, 0x99#8]
  | .res_3_d => [0xCB#8, 0x9A#8]
  | .res_3_e => [0xCB#8, 0x9B#8]
  | .res_3_h => [0xCB#8, 0x9C#8]
  | .res_3_l => [0xCB#8, 0x9D#8]
  | .res_3_mHL => [0xCB#8, 0x9E#8]
  | .res_3_a => [0xCB#8, 0x9F#8]
  | .res_4_b => [0xCB#8, 0xA0#8]
  | .res_4_c => [0xCB#8, 0xA1#8]
  | .res_4_d => [0xCB#8, 0xA2#8]
  | .res_4_e => [0xCB#8, 0xA3#8]
  | .res_4_h => [0xCB#8, 0xA4#8]
  | .res_4_l => [0xCB#8, 0xA5#8]
  | .res_4_mHL => [0xCB#8, 0xA6#8]
  | .res_4_a => [0xCB#8, 0xA7#8]
  | .res_5_b => [0xCB#8, 0xA8#8]
  | .res_5_c => [0xCB#8, 0xA9#8]
  | .res_5_d => [0xCB#8, 0xAA#8]
  | .res_5_e => [0xCB#8, 0xAB#8]
  | .res_5_h => [0xCB#8, 0xAC#8]
  | .res_5_l => [0xCB#8, 0xAD#8]
  | .res_5_mHL => [0xCB#8, 0xAE#8]
  | .res_5_a => [0xCB#8, 0xAF#8]
  | .res_6_b => [0xCB#8, 0xB0#8]
  | .res_6_c => [0xCB#8, 0xB1#8]
  | .res_6_d => [0xCB#8, 0xB2#8]
  | .res_6_e => [0xCB#8, 0xB3#8]
  | .res_6_h => [0xCB#8, 0xB4#8]
  | .res_6_l => [0xCB#8, 0xB5#8]
  | .res_6_mHL => [0xCB#8, 0xB6#8]
  | .res_6_a => [0xCB#8, 0xB7#8]
  | .res_7_b => [0xCB#8, 0xB8#8]
  | .res_7_c => [0xCB#8, 0xB9#8]
  | .res_7_d => [0xCB#8, 0xBA#8]
  | .res_7_e => [0xCB#8, 0xBB#8]
  | .res_7_h => [0xCB#8, 0xBC#8]
  | .res_7_l => [0xCB#8, 0xBD#8]
  | .res_7_mHL => [0xCB#8, 0xBE#8]
  | .res_7_a => [0xCB#8, 0xBF#8]
  | .set_0_b => [0xCB#8, 0xC0#8]
  | .set_0_c => [0xCB#8, 0xC1#8]
  | .set_0_d => [0xCB#8, 0xC2#8]
  | .set_0_e => [0xCB#8, 0xC3#8]
  | .set_0_h => [0xCB#8, 0xC4#8]
  | .set_0_l => [0xCB#8, 0xC5#8]
  | .set_0_mHL => [0xCB#8, 0xC6#8]
  | .set_0_a => [0xCB#8, 0xC7#8]
  | .set_1_b => [0xCB#8, 0xC8#8]
  | .set_1_c => [0xCB#8, 0xC9#8]
  | .set_1_d => [0xCB#8, 0xCA#8]
  | .set_1_e => [0xCB#8, 0xCB#8]
  | .set_1_h => [0xCB#8, 0xCC#8]
  | .set_1_l => [0xCB#8, 0xCD#8]
  | .set_1_mHL => [0xCB#8, 0xCE#8]
  | .set_1_a => [0xCB#8, 0xCF#8]
  | .set_2_b => [0xCB#8, 0xD0#8]
  | .set_2_c => [0xCB#8, 0xD1#8]
  | .set_2_d => [0xCB#8, 0xD2#8]
  | .set_2_e => [0xCB#8, 0xD3#8]
  | .set_2_h => [0xCB#8, 0xD4#8]
  | .set_2_l => [0xCB#8, 0xD5#8]
  | .set_2_mHL => [0xCB#8, 0xD6#8]
  | .set_2_a => [0xCB#8, 0xD7#8]
  | .set_3_b => [0xCB#8, 0xD8#8]
  | .set_3_c => [0xCB#8, 0xD9#8]
  | .set_3_d => [0xCB#8, 0xDA#8]
  | .set_3_e => [0xCB#8, 0xDB#8]
  | .set_3_h => [0xCB#8, 0xDC#8]
  | .set_3_l => [0xCB#8, 0xDD#8]
  | .set_3_mHL => [0xCB#8, 0xDE#8]
  | .set_3_a => [0xCB#8, 0xDF#8]
  | .set_4_b => [0xCB#8, 0xE0#8]
  | .set_4_c => [0xCB#8, 0xE1#8]
  | .set_4_d => [0xCB#8, 0xE2#8]
  | .set_4_e => [0xCB#8, 0xE3#8]
  | .set_4_h => [0xCB#8, 0xE4#8]
  | .set_4_l => [0xCB#8, 0xE5#8]
  | .set_4_mHL => [0xCB#8, 0xE6#8]
  | .set_4_a => [0xCB#8, 0xE7#8]
  | .set_5_b => [0xCB#8, 0xE8#8]
  | .set_5_c => [0xCB#8, 0xE9#8]
  | .set_5_d => [0xCB#8, 0xEA#8]
  | .set_5_e => [0xCB#8, 0xEB#8]
  | .set_5_h => [0xCB#8, 0xEC#8]
  | .set_5_l => [0xCB#8, 0xED#8]
  | .set_5_mHL => [0xCB#8, 0xEE#8]
  | .set_5_a => [0xCB#8, 0xEF#8]
  | .set_6_b => [0xCB#8, 0xF0#8]
  | .set_6_c => [0xCB#8, 0xF1#8]
  | .set_6_d => [0xCB#8, 0xF2#8]
  | .set_6_e => [0xCB#8, 0xF3#8]
  | .set_6_h => [0xCB#8, 0xF4#8]
  | .set_6_l => [0xCB#8, 0xF5#8]
  | .set_6_mHL => [0xCB#8, 0xF6#8]
  | .set_6_a => [0xCB#8, 0xF7#8]
  | .set_7_b => [0xCB#8, 0xF8#8]
  | .set_7_c => [0xCB#8, 0xF9#8]
  | .set_7_d => [0xCB#8, 0xFA#8]
  | .set_7_e => [0xCB#8, 0xFB#8]
  | .set_7_h => [0xCB#8, 0xFC#8]
  | .set_7_l => [0xCB#8, 0xFD#8]
  | .set_7_mHL => [0xCB#8, 0xFE#8]
  | .set_7_a => [0xCB#8, 0xFF#8]

/-- The descriptor of an instruction: the ROM entry its bytes select; of a prefixed instruction, the entry of its
second byte (30_encoding.md R79). -/
def Instr.opcode (i : Instr) : Option Opcode :=
  match encode i with
  | [] => none
  | b0 :: rest =>
    if b0 = prefixMarker then
      match rest with
      | [] => none
      | b1 :: _ => opcodeFromByte b1 true
    else opcodeFromByte b0 false

/-! ## Words as spec/opcode_table.json numbers them -/

/-- Byte `k` of a number, byte 0 the least significant; zero from bit `nbits` up. -/
def byteOfNumber (nbits w k : Nat) : Byte := if 8 * k < nbits then BitVec.ofNat 8 (w / 256 ^ k) else 0x00#8

/-- The three bytes, in stream order, of an instruction whose table bits are `w`. The table numbers a prefixed row as
`0xCB00 | op2`, the first byte in the high half (30_encoding.md R85); every other row by its first byte (log entry 14). -/
def tableBytes (nbits w : Nat) : List Byte :=
  if nbits = 16 ∧ byteOfNumber nbits w 1 = prefixMarker then [prefixMarker, byteOfNumber nbits w 0, 0x00#8]
  else [byteOfNumber nbits w 0, byteOfNumber nbits w 1, byteOfNumber nbits w 2]

/-- The instruction the decoder reads from the table bits `w`; none where it refuses. -/
def decodeTableWord (nbits w : Nat) : Option Instr :=
  match decode (tableBytes nbits w) with
  | .ok (i, _) => some i
  | .error _ => none

end Sys2Proof
end

