-- ==== Sys2Proof/Config.lean ====
section
/-! DEFINITION. What an implementation fixes: the named parameters of 00_scope.md R6, and the behaviour of
the devices of `P_DEVICES`, which the spec leaves free. -/

namespace Sys2Proof

/-- `P_HALT_WAKE` (R6, 60_exceptions.md R225). -/
inductive HaltWake where
  | enabledAndRequested
  | anyRequested
deriving DecidableEq, Repr

/-- `P_STOP_MODE` (R6, 45_system.md R201). -/
inductive StopMode where
  | nop
  | refuse
deriving DecidableEq, Repr

/-- `P_POST_BOOT` (R6, 10_state.md R37). -/
inductive BootModel where
  | dmg
  | cgb
deriving DecidableEq, Repr

/-- The parameters of 00_scope.md R6 that a step reads. `P_INITIAL_MEMORY` and `P_DEVICES` are arguments of
construction (Machine/HostOps.lean). -/
structure Config where
  /-- `P_EI_DELAYED` (92_eei_decisions.md D7) -/
  eiDelayed : Bool
  /-- `P_HALT_WAKE` (D8) -/
  haltWake : HaltWake
  /-- `P_HALT_IDLE_CYCLES` (D9) -/
  haltIdleCycles : Nat
  /-- `P_STOP_MODE` (D11) -/
  stopMode : StopMode
  /-- `P_INT_SERVICE_CYCLES` (D6) -/
  intServiceCycles : Nat
  /-- `P_IE_UPPER`: bits 7-5 of a read of IE (D4) -/
  ieUpper : BitVec 3
  /-- `P_IF_UPPER`: bits 7-5 of a read of IF (D4) -/
  ifUpper : BitVec 3
  /-- `P_POST_BOOT` (D18) -/
  postBoot : BootModel
deriving DecidableEq, Repr

/-- The defaults of 00_scope.md R6, which every rule and test vector of the spec uses. -/
def Config.default : Config where
  eiDelayed := true
  haltWake := .enabledAndRequested
  haltIdleCycles := 4
  stopMode := .nop
  intServiceCycles := 20
  ieUpper := 0b111#3
  ifUpper := 0b111#3
  postBoot := .dmg

/-- The five interrupt lines, highest priority first (10_state.md R30). -/
inductive Line where
  | vblank
  | lcdStat
  | timer
  | serial
  | joypad
deriving DecidableEq, Repr, Inhabited

/-- What a handler answers to `OnRead` (20_memory.md R39), the abort among them. -/
inductive ReadOutcome where
  | replace (v : Byte)
  | passthrough
  | abort
deriving DecidableEq, Repr, Inhabited

/-- What a handler answers to `OnWrite` (20_memory.md R39), the abort among them. -/
inductive WriteOutcome where
  | replace (v : Byte)
  | passthrough
  | block
  | abort
deriving DecidableEq, Repr, Inhabited

/-- What a device may do in its `Step` beside changing its own state (60_exceptions.md R236). -/
inductive StepAction where
  | request (l : Line)
  | read (a : Word)
  | write (a : Word) (v : Byte)
deriving DecidableEq, Repr, Inhabited

/-- A device's own state, as plain data; what it means is the device's (10_state.md R36). -/
abbrev DeviceState := List Nat

/-! The behaviour of the devices of `P_DEVICES` (R6, 20_memory.md R39, 60_exceptions.md R236), free: DESIGN CHOICE, safe
(log entry 4). The first argument is the device's place in `P_DEVICES`. -/

/-- `OnRead(addr)`: the answer and the device's next state. -/
opaque Config.deviceOnRead : Nat → DeviceState → Word → ReadOutcome × DeviceState

/-- `OnWrite(addr, value)`: the answer and the device's next state. -/
opaque Config.deviceOnWrite : Nat → DeviceState → Word → Byte → WriteOutcome × DeviceState

/-- The start of the device's `Step(cycles)`: how many actions it takes, and its state before the first. -/
opaque Config.deviceStepBegin : Nat → DeviceState → Nat → Nat × DeviceState

/-- The next action of a running `Step`. -/
opaque Config.deviceStepAction : Nat → DeviceState → StepAction

/-- The device's state after an action of its `Step`, given the byte the action read (0x00 where it read none). -/
opaque Config.deviceStepResume : Nat → DeviceState → Byte → DeviceState

end Sys2Proof
end

