-- ==== Sys2Proof/Machine/State.lean ====
section
/-! DEFINITION. The state of the block (10_state.md), the reasons a step can stop, and the state after reset. -/

namespace Sys2Proof.Machine

/-- The four booleans that F packs into bits 7-4 (10_state.md R18); bits 3-0 store nothing (R17, log entry 12). -/
structure Flags where
  /-- Zero, bit 7 -/
  z : Bool
  /-- Subtract, bit 6 -/
  n : Bool
  /-- HalfCarry, bit 5 -/
  h : Bool
  /-- Carry, bit 4 -/
  c : Bool
deriving DecidableEq, Repr

/-- The state of the execution engine (10_state.md R27). -/
inductive Mode where
  | running
  | halted
deriving DecidableEq, Repr

/-- A handler of the registry (20_memory.md R39), by name: its behaviour is not state (10_state.md R36). -/
inductive Handler where
  /-- the interrupt controller (60_exceptions.md R214, R215) -/
  | interruptController
  /-- the device at place `i` of `P_DEVICES`, whose behaviour is free (Config) -/
  | device (i : Nat)
  /-- a device without state that gives every access of a kind the same answer (log entry 5) -/
  | fixed (onRead : ReadOutcome) (onWrite : WriteOutcome)
deriving DecidableEq, Repr

/-- One registration `(handle, region, handler)` (10_state.md R32); the region is inclusive. -/
structure Registration where
  handle : Nat
  first : Word
  last : Word
  handler : Handler
deriving DecidableEq, Repr

/-- The kinds of device the orchestrator tells apart (60_exceptions.md R235); the others have no `Step`. -/
inductive DeviceKind where
  | cartridge
  | dma
  | pixelPipeline
  | timer
  | serial
  | joypad
  | other
deriving DecidableEq, Repr

/-- A device of `P_DEVICES`: its kind, and its own state (20_memory.md R39). -/
structure Device where
  kind : DeviceKind
  st : DeviceState
deriving DecidableEq, Repr

/-- The backing array (10_state.md R31) as its bytes that differ from `Memory.unlisted`, by rising address. -/
abbrev Memory := List Host.Cell

/-- The state of the machine: 10_state.md R15-R33, and what INVENTORY.md names as the model's own. -/
structure State where
  /-- A, the accumulator (R15) -/
  rA : Byte
  /-- F, the flags register (R15, R18) -/
  f : Flags
  rB : Byte
  rC : Byte
  rD : Byte
  rE : Byte
  rH : Byte
  rL : Byte
  /-- the stack pointer (R23) -/
  sp : Word
  /-- the program counter (R21) -/
  pc : Word
  /-- the master interrupt enable (R25) -/
  ime : Bool
  /-- an EI whose effect is delayed (R26) -/
  imeScheduled : Bool
  /-- Running or Halted (R27) -/
  mode : Mode
  /-- IE, the enabled set (R28) -/
  ieReg : BitVec 5
  /-- IF, the requested set (R29) -/
  ifReg : BitVec 5
  /-- a step has returned a fault or a refusal (R33) -/
  faulted : Bool
  /-- the backing array (R31) -/
  mem : Memory
  /-- the handler registry, in registration order (R32) -/
  registry : List Registration
  /-- the next handle (R32) -/
  nextHandle : Nat
  /-- the devices of `P_DEVICES` with their own states (20_memory.md R39) -/
  devices : List Device
  /-- the parameters of 00_scope.md R6 (log entry 2) -/
  config : Config
  /-- the `cycles` of the last `Ok(cycles)` (00_scope.md R12, log entry 1) -/
  cycles : Nat
deriving DecidableEq, Repr

/-- The kind of a bus access (60_exceptions.md R205). -/
inductive AccessKind where
  | read
  | write
deriving DecidableEq, Repr

/-- Why a step faults (60_exceptions.md R205). Each carries the state the fault leaves (R208, log entry 11). -/
inductive Fault where
  /-- R206: raised by fetch on an undefined byte. The spec's own fault; safe. -/
  | decodeFailure (pc0 : Word) (prefixed : Bool) (byte : Byte) (final : State)
  /-- R207: raised by `read8` and `write8` when a handler aborts. The spec's own fault; safe. -/
  | illegalBusAccess (addr : Word) (kind : AccessKind) (value : Option Byte) (handle : Nat) (final : State)
  /-- 10_state.md R33: raised by `step` on a state that has faulted, which has no successor. Safe (log entry 10). -/
  | stuckAfterFault (final : State)
deriving DecidableEq, Repr

/-- Why a step is refused (00_scope.md R12). -/
inductive Refusal where
  /-- no meaning for the instruction yet; raised by an arm of `exec`; safe -/
  | notModelled (mnemonic : String)
  /-- 45_system.md R201: STOP under `P_STOP_MODE = Refuse`; the spec's own refusal; safe -/
  | stop (pc0 : Word) (final : State)
deriving DecidableEq, Repr

/-- The interrupt controller's two registrations, made first at construction (20_memory.md R44). -/
def controllerRegistrations : List Registration :=
  [ { handle := 0, first := 0xFF0F#16, last := 0xFF0F#16, handler := .interruptController },
    { handle := 1, first := 0xFFFF#16, last := 0xFFFF#16, handler := .interruptController } ]

/-- The machine after construction with every parameter at its default and `Reset()` (R240, R241, 10_state.md R37). -/
def State.reset : State where
  rA := 0x00#8
  f := { z := false, n := false, h := false, c := false }
  rB := 0x00#8
  rC := 0x00#8
  rD := 0x00#8
  rE := 0x00#8
  rH := 0x00#8
  rL := 0x00#8
  sp := 0x0000#16
  pc := 0x0000#16
  ime := false
  imeScheduled := false
  mode := .running
  ieReg := 0b00000#5
  ifReg := 0b00000#5
  faulted := false
  mem := []
  registry := controllerRegistrations
  nextHandle := 2
  devices := []
  config := Config.default
  cycles := 0

end Sys2Proof.Machine
end

