-- ==== Sys2Proof/Machine/Memory.lean ====
section
/-! DEFINITION. The backing array: its canonical form, and reading and writing one byte (10_state.md R31). -/

namespace Sys2Proof.Machine

/-- What an address that is not listed reads as: the default of `P_INITIAL_MEMORY` (00_scope.md R6, log entry 3). -/
def Memory.unlisted : Byte := 0x00#8

/-- Every address listed is at least `lo` and below 65536, the addresses rise, and no byte is `Memory.unlisted`. -/
def Memory.wfFrom (lo : Nat) : Memory → Bool
  | [] => true
  | (a, v) :: rest =>
    decide (lo ≤ a) && decide (a < 65536) && decide (v ≠ Memory.unlisted) && Memory.wfFrom (a + 1) rest

/-- The canonical form: equal arrays are equal lists. -/
def Memory.wf (m : Memory) : Bool := Memory.wfFrom 0 m

/-- `backing[a]` (20_memory.md R45). -/
def Memory.read : Memory → Nat → Byte
  | [], _ => Memory.unlisted
  | (k, v) :: rest, a => if k = a then v else Memory.read rest a

/-- A cell in front of a list, unless its byte is what an unlisted address reads as. -/
def Memory.cons (a : Nat) (v : Byte) (rest : Memory) : Memory :=
  if v = Memory.unlisted then rest else (a, v) :: rest

/-- `backing[a] <- v` (20_memory.md R46), which keeps the canonical form. -/
def Memory.write : Memory → Nat → Byte → Memory
  | [], a, v => Memory.cons a v []
  | (k, w) :: rest, a, v =>
    if a < k then Memory.cons a v ((k, w) :: rest)
    else if a = k then Memory.cons a v rest
    else (k, w) :: Memory.write rest a v

/-- A whole array given by its cells in any order, the later of two cells at one address winning. -/
def Memory.ofCells (cells : List (Word × Byte)) : Memory :=
  cells.foldl (fun m c => Memory.write m c.1.toNat c.2) []

end Sys2Proof.Machine
end

