-- ==== Sys2Proof/Machine/Ops.lean ====
section
/-! DEFINITION. The operations every instruction shares: the bus (20_memory.md), the stack, the interrupt controller,
and taking and leaving an interrupt (60_exceptions.md). -/

namespace Sys2Proof.Machine

/-- What an operation ends in: a next state, a fault or a refusal (00_scope.md R12). -/
abbrev Out := Host.Outcome State Fault Refusal

/-- The same with a value beside the next state. -/
abbrev OutVal (α : Type) := Host.Outcome (α × State) Fault Refusal

/-- Go on with the next state; a raise ends the step, and nothing after it is performed (00_scope.md R12). -/
def andThen {α β : Type} (o : Host.Outcome α Fault Refusal) (k : α → Host.Outcome β Fault Refusal) :
    Host.Outcome β Fault Refusal :=
  match o with
  | .next a => k a
  | .fault r => .fault r
  | .refused r => .refused r

/-! ## Raising, and the cost of a step -/

/-- `raise` sets `faulted` and keeps every effect before it (30_encoding.md R88, 60_exceptions.md R208). -/
def State.markFaulted (s : State) : State := { s with faulted := true }

/-- `raise IllegalBusAccess(addr, kind, value, handle)` (60_exceptions.md R207). -/
def raiseBusFault {α : Type} (a : Word) (kind : AccessKind) (v : Option Byte) (handle : Nat) (s : State) :
    Host.Outcome α Fault Refusal :=
  .fault (.illegalBusAccess a kind v handle s.markFaulted)

/-- `raise DecodeFailure(pc0, prefixed, byte)` (60_exceptions.md R206). -/
def raiseDecodeFailure {α : Type} (pc0 : Word) (prefixed : Bool) (b : Byte) (s : State) :
    Host.Outcome α Fault Refusal :=
  .fault (.decodeFailure pc0 prefixed b s.markFaulted)

/-- The code of a fault, of the two that the hardware has (60_exceptions.md R205, 92_eei_decisions.md D28). The stop on a
faulted state is the model's own and has none (log entry 10). -/
def Fault.code (r : Fault) : Option Nat :=
  match r with
  | .decodeFailure _ _ _ _ => some 1
  | .illegalBusAccess _ _ _ _ _ => some 2
  | .stuckAfterFault _ => none

/-- The instruction cost a step returns (30_encoding.md R95). -/
def State.charge (s : State) (n : Nat) : State := { s with cycles := n }

/-- The cost of the poll added to the instruction's (30_encoding.md R88). -/
def State.addCycles (s : State) (n : Nat) : State := { s with cycles := s.cycles + n }

/-! ## Handlers -/

/-- The address of IF (60_exceptions.md R215). -/
def ifAddress : Word := 0xFF0F#16

/-- The address of IE (60_exceptions.md R214). -/
def ieAddress : Word := 0xFFFF#16

/-- IE as a bus read gives it: `(P_IE_UPPER << 5) | IE` (60_exceptions.md R214). -/
def State.ieByte (s : State) : Byte := s.config.ieUpper ++ s.ieReg

/-- IF as a bus read gives it: `(P_IF_UPPER << 5) | IF` (60_exceptions.md R215). -/
def State.ifByte (s : State) : Byte := s.config.ifUpper ++ s.ifReg

/-- The state of the device at place `i` becomes `st`. -/
def State.setDeviceState (s : State) (i : Nat) (st : DeviceState) : State :=
  { s with devices := s.devices.modify i (fun d => { d with st := st }) }

/-- `handler.OnRead(a)`: the answer, and the state with the device's own state moved (20_memory.md R39).
The controller asked outside its two addresses, and a handler whose device is absent, pass through (log entries 6, 7). -/
def Handler.onRead (h : Handler) (a : Word) (s : State) : ReadOutcome × State :=
  match h with
  | .interruptController =>
    if a = ifAddress then (.replace s.ifByte, s)
    else if a = ieAddress then (.replace s.ieByte, s)
    else (.passthrough, s)
  | .device i =>
    match s.devices[i]? with
    | none => (.passthrough, s)
    | some d =>
      let answer := Config.deviceOnRead i d.st a
      (answer.1, s.setDeviceState i answer.2)
  | .fixed r _ => (r, s)

/-- `handler.OnWrite(a, v)` (20_memory.md R39, 60_exceptions.md R214, R215). -/
def Handler.onWrite (h : Handler) (a : Word) (v : Byte) (s : State) : WriteOutcome × State :=
  match h with
  | .interruptController =>
    if a = ifAddress then (.block, { s with ifReg := v.setWidth 5 })
    else if a = ieAddress then (.block, { s with ieReg := v.setWidth 5 })
    else (.passthrough, s)
  | .device i =>
    match s.devices[i]? with
    | none => (.passthrough, s)
    | some d =>
      let answer := Config.deviceOnWrite i d.st a v
      (answer.1, s.setDeviceState i answer.2)
  | .fixed _ w => (w, s)

/-- `region.start <= a <= region.end` (20_memory.md R45). -/
def Registration.covers (r : Registration) (a : Word) : Bool :=
  decide (r.first.toNat ≤ a.toNat) && decide (a.toNat ≤ r.last.toNat)

/-! ## The 8-bit accesses -/

/-- The loop of `Read8` over the registrations left (20_memory.md R45). The access that aborts has no effect, on the
aborting device either (60_exceptions.md R207, log entry 8). -/
def readVia (regs : List Registration) (a : Word) (s : State) : OutVal Byte :=
  match regs with
  | [] => .next (Memory.read s.mem a.toNat, s)
  | r :: rest =>
    if r.covers a then
      match r.handler.onRead a s with
      | (.replace v, s1) => .next (v, s1)
      | (.passthrough, s1) => readVia rest a s1
      | (.abort, _) => raiseBusFault a .read none r.handle s
    else readVia rest a s

/-- `Read8(a)`, the primitive `MemRead(a, 1)` (20_memory.md R45, 00_scope.md R11). -/
def read8 (a : Word) (s : State) : OutVal Byte := readVia s.registry a s

/-- `backing[a] <- v` (20_memory.md R46). -/
def State.poke (s : State) (a : Word) (v : Byte) : State := { s with mem := Memory.write s.mem a.toNat v }

/-- `backing[a]`. -/
def State.peek (s : State) (a : Word) : Byte := Memory.read s.mem a.toNat

/-- The loop of `Write8` over the registrations left (20_memory.md R46). -/
def writeVia (regs : List Registration) (a : Word) (v : Byte) (s : State) : Out :=
  match regs with
  | [] => .next (s.poke a v)
  | r :: rest =>
    if r.covers a then
      match r.handler.onWrite a v s with
      | (.block, s1) => .next s1
      | (.replace v', s1) => .next (s1.poke a v')
      | (.passthrough, s1) => writeVia rest a v s1
      | (.abort, _) => raiseBusFault a .write (some v) r.handle s
    else writeVia rest a v s

/-- `Write8(a, v)`, the primitive `MemWrite(a, 1, v)` (20_memory.md R46, 00_scope.md R11). -/
def write8 (a : Word) (v : Byte) (s : State) : Out := writeVia s.registry a v s

/-! ## The 16-bit accesses -/

/-- `Read16(a)`: the low byte at `a` first, then the high byte at `a + 1` (20_memory.md R47). -/
def read16 (a : Word) (s : State) : OutVal Word :=
  andThen (read8 a s) fun lo =>
  andThen (read8 (a + 1#16) lo.2) fun hi =>
  .next (joinBytes hi.1 lo.1, hi.2)

/-- `Write16(a, v)`: the low byte to `a` first, then the high byte to `a + 1` (20_memory.md R48). -/
def write16 (a : Word) (v : Word) (s : State) : Out :=
  andThen (write8 a (loByte v) s) fun s1 => write8 (a + 1#16) (hiByte v) s1

/-! ## The stack -/

/-- `sp <- sp + d`. -/
def State.moveSp (s : State) (d : Word) : State := { s with sp := s.sp + d }

/-- One half of a push: `sp <- sp - 1; MemWrite(sp, 1, v)` (20_memory.md R51). -/
def pushByte (v : Byte) (s : State) : Out := write8 (s.sp - 1#16) v (s.moveSp (-1#16))

/-- `Push16(v)`: the high byte first (20_memory.md R51). -/
def push16 (v : Word) (s : State) : Out :=
  andThen (pushByte (hiByte v) s) fun s1 => pushByte (loByte v) s1

/-- One half of a pop: `MemRead(sp, 1); sp <- sp + 1` (20_memory.md R52). -/
def popByte (s : State) : OutVal Byte :=
  andThen (read8 s.sp s) fun b => .next (b.1, b.2.moveSp 1#16)

/-- `Pop16()`: the low byte first (20_memory.md R52). -/
def pop16 (s : State) : OutVal Word :=
  andThen (popByte s) fun lo =>
  andThen (popByte lo.2) fun hi =>
  .next (joinBytes hi.1 lo.1, hi.2)

/-! ## The interrupt controller -/

/-- The bit of the line in IE and IF (10_state.md R30). -/
def lineIndex (l : Line) : Nat :=
  match l with
  | .vblank => 0
  | .lcdStat => 1
  | .timer => 2
  | .serial => 3
  | .joypad => 4

/-- The line's fixed vector (60_exceptions.md R222). -/
def lineVector (l : Line) : Word :=
  match l with
  | .vblank => 0x0040#16
  | .lcdStat => 0x0048#16
  | .timer => 0x0050#16
  | .serial => 0x0058#16
  | .joypad => 0x0060#16

/-- The five lines, highest priority first (60_exceptions.md R219). -/
def linesByPriority : List Line := [.vblank, .lcdStat, .timer, .serial, .joypad]

/-- The line is enabled and requested (60_exceptions.md R212). -/
def State.pending (s : State) (l : Line) : Bool := s.ieReg.getLsbD (lineIndex l) && s.ifReg.getLsbD (lineIndex l)

/-- `NextRequest()`: the highest-priority pending line (60_exceptions.md R217). -/
def State.nextRequest (s : State) : Option Line := linesByPriority.find? s.pending

/-- `Request<Line>()` (60_exceptions.md R213). -/
def State.request (s : State) (l : Line) : State := { s with ifReg := s.ifReg ||| 1#5 <<< lineIndex l }

/-- `IF[l] <- 0` (60_exceptions.md R218). -/
def State.clearRequest (s : State) (l : Line) : State := { s with ifReg := s.ifReg &&& ~~~(1#5 <<< lineIndex l) }

/-- `ConsumeRequest()` (60_exceptions.md R218). -/
def State.consumeRequest (s : State) : Option Line × State :=
  match s.nextRequest with
  | none => (none, s)
  | some l => (some l, s.clearRequest l)

/-! ## Taking an interrupt, and returning from one -/

/-- IME and the delayed EI as `DI` and a service leave them (45_system.md R202, 60_exceptions.md R221). -/
def State.disableInterrupts (s : State) : State := { s with ime := false, imeScheduled := false }

/-- IME as `RETI` leaves it (44_control.md R197). -/
def State.enableInterruptsNow (s : State) : State := { s with ime := true, imeScheduled := false }

/-- The service of the line `l` after its request was consumed: interrupts off, Running, `pc` pushed, `pc` at the
vector, and the service's cost (60_exceptions.md R221). A push that faults leaves `pc` unchanged (R208). -/
def takeInterrupt (l : Line) (s : State) : Out :=
  let s1 : State := { s.disableInterrupts with mode := .running }
  andThen (push16 s1.pc s1) fun s2 =>
  .next ({ s2 with pc := lineVector l }.addCycles s2.config.intServiceCycles)

/-- `pc <- Pop16(); IME <- 1; ime_scheduled <- 0`, the return from an interrupt (44_control.md R197). -/
def returnFromInterrupt (s : State) : Out :=
  andThen (pop16 s) fun v => .next { v.2 with pc := v.1 }.enableInterruptsNow

/-- `ServiceInterrupt()` (60_exceptions.md R221). -/
def serviceInterrupt (s : State) : Out :=
  match s.consumeRequest with
  | (none, s1) => .next s1
  | (some l, s1) => takeInterrupt l s1

/-- `WakeCond()` (60_exceptions.md R225). -/
def State.wakeCond (s : State) : Bool :=
  match s.config.haltWake with
  | .enabledAndRequested => decide (s.ieReg &&& s.ifReg ≠ 0#5)
  | .anyRequested => decide (s.ifReg ≠ 0#5)

/-- The wake of the poll (60_exceptions.md R220, R225). -/
def State.wake (s : State) : State :=
  if s.mode = .halted ∧ s.wakeCond = true then { s with mode := .running } else s

/-- `PollInterrupts()` (60_exceptions.md R220). -/
def pollInterrupts (s : State) : Out :=
  let s1 := s.wake
  if s1.ime = true ∧ s1.nextRequest ≠ none then serviceInterrupt s1 else .next s1

/-- `PromoteEI()` (30_encoding.md R89). -/
def State.promoteEI (s : State) : State :=
  if s.imeScheduled then { s with ime := true, imeScheduled := false } else s

end Sys2Proof.Machine
end

