-- ==== Sys2Proof/Machine/Flags.lean ====
section
/-! DEFINITION. The arithmetic and its flags: 41_alu8.md, 42_alu16.md, 43_rotate_shift_bit.md. -/

namespace Sys2Proof.Machine

/-- The byte that F reads as: the four booleans in bits 7-4, zeros in bits 3-0 (10_state.md R18). -/
def Flags.toByte (f : Flags) : Byte :=
  BitVec.ofBool f.z ++ BitVec.ofBool f.n ++ BitVec.ofBool f.h ++ BitVec.ofBool f.c ++ 0b0000#4

/-- A write of F stores bits 7-4 only (10_state.md R17). -/
def Flags.ofByte (v : Byte) : Flags :=
  { z := v.getLsbD 7, n := v.getLsbD 6, h := v.getLsbD 5, c := v.getLsbD 4 }

/-- The result and the flags Z, H and C of an 8-bit addition or subtraction. -/
structure Alu8Out where
  res : Byte
  z : Bool
  h : Bool
  c : Bool
deriving DecidableEq, Repr

/-- `Add8(a, b, cin)` (41_alu8.md R121). -/
def add8 (a b : Byte) (cin : Bool) : Alu8Out :=
  let res := BitVec.ofNat 8 (a.toNat + b.toNat + cin.toNat)
  { res := res
    z := decide (res = 0#8)
    h := decide (((a &&& 0x0F#8) + (b &&& 0x0F#8) + BitVec.ofNat 8 cin.toNat) &&& 0x10#8 = 0x10#8)
    c := decide (a.toNat + b.toNat + cin.toNat > 0xFF) }

/-- `Sub8(a, b, bin)` (41_alu8.md R122). -/
def sub8 (a b : Byte) (bin : Bool) : Alu8Out :=
  let res := BitVec.ofInt 8 ((a.toNat : Int) - (b.toNat : Int) - (bin.toNat : Int))
  { res := res
    z := decide (res = 0#8)
    h := decide (((a &&& 0x0F#8).toNat : Int) - ((b &&& 0x0F#8).toNat : Int) - (bin.toNat : Int) < 0)
    c := decide ((a.toNat : Int) - (b.toNat : Int) - (bin.toNat : Int) < 0) }

/-- The result and the flags H and C of a 16-bit addition. -/
structure Alu16Out where
  res : Word
  h : Bool
  c : Bool
deriving DecidableEq, Repr

/-- `Add16(a, b)`, by the masked operands (42_alu16.md R155, 90_conflicts.md C2). -/
def add16 (a b : Word) : Alu16Out :=
  { res := a + b
    h := decide (((a &&& 0x0FFF#16) + (b &&& 0x0FFF#16)) &&& 0x1000#16 = 0x1000#16)
    c := decide (a.toNat + b.toNat > 0xFFFF) }

/-- `sext_16(n8)`, the value of `e8` (00_scope.md R8, 30_encoding.md R76). -/
def sext16 (n : Byte) : Word := n.signExtend 16

/-- `x[SP] + e8`, with H and C of the addition of SP's low byte and the unsigned byte (42_alu16.md R159, R160). -/
def addSpOffset (sp : Word) (n : Byte) : Alu16Out :=
  { res := sp + sext16 n
    h := decide ((sp &&& 0x000F#16).toNat + (n &&& 0x0F#8).toNat > 0xF)
    c := decide ((sp &&& 0x00FF#16).toNat + n.toNat > 0xFF) }

/-- The accumulator operations of the field `alu` (30_encoding.md R72). -/
inductive Alu where
  | add
  | adc
  | sub
  | sbc
  | and
  | xor
  | or
  | cp
deriving DecidableEq, Repr

/-- The result for A, and the flags, of an accumulator operation on A, the operand and the old flags
(41_alu8.md R123-R146). CP leaves A (R144). -/
def Alu.run (op : Alu) (a v : Byte) (f : Flags) : Byte × Flags :=
  match op with
  | .add => let o := add8 a v false; (o.res, { z := o.z, n := false, h := o.h, c := o.c })
  | .adc => let o := add8 a v f.c; (o.res, { z := o.z, n := false, h := o.h, c := o.c })
  | .sub => let o := sub8 a v false; (o.res, { z := o.z, n := true, h := o.h, c := o.c })
  | .sbc => let o := sub8 a v f.c; (o.res, { z := o.z, n := true, h := o.h, c := o.c })
  | .and => (a &&& v, { z := decide (a &&& v = 0#8), n := false, h := true, c := false })
  | .xor => (a ^^^ v, { z := decide (a ^^^ v = 0#8), n := false, h := false, c := false })
  | .or => (a ||| v, { z := decide (a ||| v = 0#8), n := false, h := false, c := false })
  | .cp => let o := sub8 a v false; (a, { z := o.z, n := true, h := o.h, c := o.c })

/-- The flags of an 8-bit increment of `v`; C is unchanged (41_alu8.md R147). -/
def incFlags (v : Byte) (f : Flags) : Flags :=
  { f with z := decide (v + 1#8 = 0#8), n := false, h := decide (v &&& 0x0F#8 = 0x0F#8) }

/-- The flags of an 8-bit decrement of `v`; C is unchanged (41_alu8.md R149). -/
def decFlags (v : Byte) (f : Flags) : Flags :=
  { f with z := decide (v - 1#8 = 0#8), n := true, h := decide (v &&& 0x0F#8 = 0x00#8) }

/-- The addition branch of DAA: A and C (41_alu8.md R151). -/
def daaAfterAdd (a : Byte) (f : Flags) : Byte × Bool :=
  let high : Byte × Bool := if f.c = true ∨ a > 0x99#8 then (a + 0x60#8, true) else (a, f.c)
  let low : Byte := if f.h = true ∨ (high.1 &&& 0x0F#8) > 0x09#8 then high.1 + 0x06#8 else high.1
  (low, high.2)

/-- The subtraction branch of DAA: A and C, which keeps its value (41_alu8.md R151). -/
def daaAfterSub (a : Byte) (f : Flags) : Byte × Bool :=
  let high : Byte := if f.c then a - 0x60#8 else a
  let low : Byte := if f.h then high - 0x06#8 else high
  (low, f.c)

/-- DAA: A and the flags (41_alu8.md R151). N is unchanged. -/
def daa (a : Byte) (f : Flags) : Byte × Flags :=
  let o := if f.n then daaAfterSub a f else daaAfterAdd a f
  (o.1, { f with z := decide (o.1 = 0#8), h := false, c := o.2 })

/-- The rotates and shifts of the field `y` of a prefixed opcode (30_encoding.md R73). -/
inductive Rot where
  | rlc
  | rrc
  | rl
  | rr
  | sla
  | sra
  | swap
  | srl
deriving DecidableEq, Repr

/-- A bit as a byte, for the places of 43_rotate_shift_bit.md that put a carry into a result. -/
def bitByte (b : Bool) : Byte := BitVec.ofNat 8 b.toNat

/-- The result and the new carry of a rotate or shift (43_rotate_shift_bit.md R166-R181). -/
def Rot.run (op : Rot) (v : Byte) (cin : Bool) : Byte × Bool :=
  match op with
  | .rlc => ((v <<< 1) ||| bitByte (v.getLsbD 7), v.getLsbD 7)
  | .rrc => ((v >>> 1) ||| (bitByte (v.getLsbD 0) <<< 7), v.getLsbD 0)
  | .rl => ((v <<< 1) ||| bitByte cin, v.getLsbD 7)
  | .rr => ((v >>> 1) ||| (bitByte cin <<< 7), v.getLsbD 0)
  | .sla => (v <<< 1, v.getLsbD 7)
  | .sra => ((v >>> 1) ||| (v &&& 0x80#8), v.getLsbD 0)
  | .swap => ((v <<< 4) ||| (v >>> 4), false)
  | .srl => (v >>> 1, v.getLsbD 0)

/-- The flags of a prefixed rotate or shift with result `res` and carry `c` (43_rotate_shift_bit.md section 3). -/
def rotFlags (res : Byte) (c : Bool) : Flags := { z := decide (res = 0#8), n := false, h := false, c := c }

/-- The flags of BIT on bit `b` of `v`; C is unchanged (43_rotate_shift_bit.md R182). -/
def bitFlags (b : Fin 8) (v : Byte) (f : Flags) : Flags :=
  { f with z := !(v.getLsbD b.val), n := false, h := true }

/-- `v & ~(1 << b)` (43_rotate_shift_bit.md R184). -/
def resetBit (b : Fin 8) (v : Byte) : Byte := v &&& ~~~(1#8 <<< b.val)

/-- `v | (1 << b)` (43_rotate_shift_bit.md R186). -/
def setBit (b : Fin 8) (v : Byte) : Byte := v ||| (1#8 <<< b.val)

end Sys2Proof.Machine
end

