-- ==== Sys2Proof/Machine/Operands.lean ====
section
/-! DEFINITION. The operand forms of 30_encoding.md: register fields, pairs, conditions, addresses. -/

namespace Sys2Proof.Machine

/-- The seven registers of the operand field `r` (30_encoding.md R68). -/
inductive Reg8 where
  | b
  | c
  | d
  | e
  | h
  | l
  | a
deriving DecidableEq, Repr

/-- The value of the field `r` that names the register (30_encoding.md R68). -/
def Reg8.code (r : Reg8) : BitVec 3 :=
  match r with
  | .b => 0
  | .c => 1
  | .d => 2
  | .e => 3
  | .h => 4
  | .l => 5
  | .a => 7

/-- An operand of the field `r`: a register, or the byte at HL (30_encoding.md R68, 43_rotate_shift_bit.md R165). -/
inductive Operand8 where
  | reg (r : Reg8)
  | atHL
deriving DecidableEq, Repr

/-- The operand that a value of the field `r` names (30_encoding.md R68). -/
def Operand8.ofCode (r : BitVec 3) : Operand8 :=
  match r.toNat with
  | 0 => .reg .b
  | 1 => .reg .c
  | 2 => .reg .d
  | 3 => .reg .e
  | 4 => .reg .h
  | 5 => .reg .l
  | 6 => .atHL
  | _ => .reg .a

/-- `x[r]` (00_scope.md R10). -/
def State.getR (s : State) (r : Reg8) : Byte :=
  match r with
  | .b => s.rB
  | .c => s.rC
  | .d => s.rD
  | .e => s.rE
  | .h => s.rH
  | .l => s.rL
  | .a => s.rA

/-- `x[r] <- v` (00_scope.md R10). -/
def State.setR (s : State) (r : Reg8) (v : Byte) : State :=
  match r with
  | .b => { s with rB := v }
  | .c => { s with rC := v }
  | .d => { s with rD := v }
  | .e => { s with rE := v }
  | .h => { s with rH := v }
  | .l => { s with rL := v }
  | .a => { s with rA := v }

/-- `F <- v`. -/
def State.setF (s : State) (f : Flags) : State := { s with f := f }

/-- `pc <- v`. -/
def State.setPc (s : State) (v : Word) : State := { s with pc := v }

/-- `x[BC]` (10_state.md R16). -/
def State.bc (s : State) : Word := joinBytes s.rB s.rC

/-- `x[DE]` (10_state.md R16). -/
def State.de (s : State) : Word := joinBytes s.rD s.rE

/-- `x[HL]` (10_state.md R16). -/
def State.hl (s : State) : Word := joinBytes s.rH s.rL

/-- `x[AF]` (10_state.md R16). -/
def State.af (s : State) : Word := joinBytes s.rA s.f.toByte

/-- `x[HL] <- v` (10_state.md R16). -/
def State.setHL (s : State) (v : Word) : State := { s with rH := hiByte v, rL := loByte v }

/-- The field `rp` (30_encoding.md R69). -/
inductive Pair where
  | bc
  | de
  | hl
  | sp
deriving DecidableEq, Repr

/-- The value of the field `rp`. -/
def Pair.code (p : Pair) : BitVec 2 :=
  match p with
  | .bc => 0
  | .de => 1
  | .hl => 2
  | .sp => 3

/-- `x[rp]`. -/
def State.getPair (s : State) (p : Pair) : Word :=
  match p with
  | .bc => s.bc
  | .de => s.de
  | .hl => s.hl
  | .sp => s.sp

/-- `x[rp] <- v`, which writes both halves (10_state.md R16). -/
def State.setPair (s : State) (p : Pair) (v : Word) : State :=
  match p with
  | .bc => { s with rB := hiByte v, rC := loByte v }
  | .de => { s with rD := hiByte v, rE := loByte v }
  | .hl => s.setHL v
  | .sp => { s with sp := v }

/-- The field `rp2` of PUSH and POP (30_encoding.md R70). -/
inductive StackPair where
  | bc
  | de
  | hl
  | af
deriving DecidableEq, Repr

/-- The value of the field `rp2`. -/
def StackPair.code (p : StackPair) : BitVec 2 :=
  match p with
  | .bc => 0
  | .de => 1
  | .hl => 2
  | .af => 3

/-- `x[rp2]`. -/
def State.getStackPair (s : State) (p : StackPair) : Word :=
  match p with
  | .bc => s.bc
  | .de => s.de
  | .hl => s.hl
  | .af => s.af

/-- `x[rp2] <- v`; a write of AF stores bits 7-4 of its low byte only (10_state.md R17, 40_load.md R120). -/
def State.setStackPair (s : State) (p : StackPair) (v : Word) : State :=
  match p with
  | .bc => { s with rB := hiByte v, rC := loByte v }
  | .de => { s with rD := hiByte v, rE := loByte v }
  | .hl => s.setHL v
  | .af => { s with rA := hiByte v, f := Flags.ofByte (loByte v) }

/-- The field `cc` (30_encoding.md R71). -/
inductive Cond where
  | nz
  | z
  | nc
  | c
deriving DecidableEq, Repr

/-- The value of the field `cc`. -/
def Cond.code (cc : Cond) : BitVec 2 :=
  match cc with
  | .nz => 0
  | .z => 1
  | .nc => 2
  | .c => 3

/-- `cond(cc)` on the current flags (30_encoding.md R71). -/
def Cond.holds (cc : Cond) (f : Flags) : Bool :=
  match cc with
  | .nz => !f.z
  | .z => f.z
  | .nc => !f.c
  | .c => f.c

/-- The high-page address `0xFF00 + zext_16(v)` (30_encoding.md R77). -/
def highPage (v : Byte) : Word := 0xFF00#16 + v.setWidth 16

/-- The value of the field `alu` (30_encoding.md R72). -/
def Alu.code (op : Alu) : BitVec 3 :=
  match op with
  | .add => 0
  | .adc => 1
  | .sub => 2
  | .sbc => 3
  | .and => 4
  | .xor => 5
  | .or => 6
  | .cp => 7

/-- The value of the field `y` of a prefixed rotate or shift (30_encoding.md R73). -/
def Rot.code (op : Rot) : BitVec 3 :=
  match op with
  | .rlc => 0
  | .rrc => 1
  | .rl => 2
  | .rr => 3
  | .sla => 4
  | .sra => 5
  | .swap => 6
  | .srl => 7

/-- The rotate or shift that a value of `y` names (30_encoding.md R73). -/
def Rot.ofCode (y : BitVec 3) : Rot :=
  match y.toNat with
  | 0 => .rlc
  | 1 => .rrc
  | 2 => .rl
  | 3 => .rr
  | 4 => .sla
  | 5 => .sra
  | 6 => .swap
  | _ => .srl

end Sys2Proof.Machine
end

