-- ==== Sys2Proof/Machine/Alu16.lean ====
section
/-! DEFINITION. 16-bit arithmetic (42_alu16.md). -/

namespace Sys2Proof.Machine

/-! ## Shared shapes -/

/-- `ADD HL, rr`: Z is unchanged (R156). -/
def addHL (p : Pair) (s : State) : Out :=
  let o := add16 s.hl (s.getPair p)
  .next (((s.setHL o.res).setF { s.f with n := false, h := o.h, c := o.c }).charge 8)

/-- `x[rr] <- x[rr] + 1`, no flags (R157). -/
def incPair (p : Pair) (s : State) : Out := .next ((s.setPair p (s.getPair p + 1#16)).charge 8)

/-- `x[rr] <- x[rr] - 1`, no flags (R158). -/
def decPair (p : Pair) (s : State) : Out := .next ((s.setPair p (s.getPair p - 1#16)).charge 8)

/-- The flags of the two SP-relative additions (R159, R160). -/
def Alu16Out.spFlags (o : Alu16Out) : Flags := { z := false, n := false, h := o.h, c := o.c }

/-- `ADD SP, e8` (R159). -/
def addSp (e : Byte) (s : State) : Out :=
  let o := addSpOffset s.sp e
  .next (((s.setPair .sp o.res).setF o.spFlags).charge 16)

/-- `LD HL, SP+e8` (R160). -/
def ldHLSp (e : Byte) (s : State) : Out :=
  let o := addSpOffset s.sp e
  .next (((s.setHL o.res).setF o.spFlags).charge 12)

/-! ## The instructions -/

/-- `INC BC` (R157). -/
def execInc_bc (s : State) : Out := incPair .bc s

/-- `ADD HL, BC` (R156). -/
def execAdd_hl_bc (s : State) : Out := addHL .bc s

/-- `DEC BC` (R158). -/
def execDec_bc (s : State) : Out := decPair .bc s

/-- `INC DE` (R157). -/
def execInc_de (s : State) : Out := incPair .de s

/-- `ADD HL, DE` (R156). -/
def execAdd_hl_de (s : State) : Out := addHL .de s

/-- `DEC DE` (R158). -/
def execDec_de (s : State) : Out := decPair .de s

/-- `INC HL` (R157). -/
def execInc_hl (s : State) : Out := incPair .hl s

/-- `ADD HL, HL` (R156). -/
def execAdd_hl_hl (s : State) : Out := addHL .hl s

/-- `DEC HL` (R158). -/
def execDec_hl (s : State) : Out := decPair .hl s

/-- `INC SP` (R157). -/
def execInc_sp (s : State) : Out := incPair .sp s

/-- `ADD HL, SP` (R156). -/
def execAdd_hl_sp (s : State) : Out := addHL .sp s

/-- `DEC SP` (R158). -/
def execDec_sp (s : State) : Out := decPair .sp s

/-- `ADD SP, e8` (R159). -/
def execAdd_sp_e8 (e : Byte) (s : State) : Out := addSp e s

/-- `LD HL, SP+e8` (R160). -/
def execLd_hl_spE8 (e : Byte) (s : State) : Out := ldHLSp e s

end Sys2Proof.Machine
end

