-- ==== Sys2Proof/Machine/Alu8.lean ====
section
/-! DEFINITION. 8-bit arithmetic and logic (41_alu8.md). -/

namespace Sys2Proof.Machine

/-! ## Shared shapes -/

/-- A and F after an accumulator operation on the operand `v`. -/
def State.applyAlu (s : State) (op : Alu) (v : Byte) : State :=
  { s with rA := (op.run s.rA v s.f).1, f := (op.run s.rA v s.f).2 }

/-- An accumulator operation on a register. -/
def aluR (op : Alu) (r : Reg8) (s : State) : Out := .next ((s.applyAlu op (s.getR r)).charge 4)

/-- An accumulator operation on the byte at HL. -/
def aluM (op : Alu) (s : State) : Out :=
  andThen (read8 s.hl s) fun v => .next ((v.2.applyAlu op v.1).charge 8)

/-- An accumulator operation on the immediate byte. -/
def aluN (op : Alu) (n : Byte) (s : State) : Out := .next ((s.applyAlu op n).charge 8)

/-- `x[d] <- x[d] + 1` with its flags (R147). -/
def incR (r : Reg8) (s : State) : Out :=
  .next (((s.setR r (s.getR r + 1#8)).setF (incFlags (s.getR r) s.f)).charge 4)

/-- `x[d] <- x[d] - 1` with its flags (R149). -/
def decR (r : Reg8) (s : State) : Out :=
  .next (((s.setR r (s.getR r - 1#8)).setF (decFlags (s.getR r) s.f)).charge 4)

/-- The byte at HL incremented; the flags are written after the write (R148). -/
def incM (s : State) : Out :=
  andThen (read8 s.hl s) fun v =>
  andThen (write8 s.hl (v.1 + 1#8) v.2) fun s1 => .next ((s1.setF (incFlags v.1 s1.f)).charge 12)

/-- The byte at HL decremented; the flags are written after the write (R150). -/
def decM (s : State) : Out :=
  andThen (read8 s.hl s) fun v =>
  andThen (write8 s.hl (v.1 - 1#8) v.2) fun s1 => .next ((s1.setF (decFlags v.1 s1.f)).charge 12)

/-- DAA (R151). -/
def adjustA (s : State) : Out := .next ({ s with rA := (daa s.rA s.f).1, f := (daa s.rA s.f).2 }.charge 4)

/-- CPL (R152). -/
def complementA (s : State) : Out := .next ({ s with rA := ~~~s.rA, f := { s.f with n := true, h := true } }.charge 4)

/-- SCF (R153). -/
def setCarry (s : State) : Out := .next ((s.setF { s.f with n := false, h := false, c := true }).charge 4)

/-- CCF (R154). -/
def flipCarry (s : State) : Out := .next ((s.setF { s.f with n := false, h := false, c := !s.f.c }).charge 4)

/-! ## The instructions -/

/-- `INC B` (R147). -/
def execInc_b (s : State) : Out := incR .b s

/-- `DEC B` (R149). -/
def execDec_b (s : State) : Out := decR .b s

/-- `INC C` (R147). -/
def execInc_c (s : State) : Out := incR .c s

/-- `DEC C` (R149). -/
def execDec_c (s : State) : Out := decR .c s

/-- `INC D` (R147). -/
def execInc_d (s : State) : Out := incR .d s

/-- `DEC D` (R149). -/
def execDec_d (s : State) : Out := decR .d s

/-- `INC E` (R147). -/
def execInc_e (s : State) : Out := incR .e s

/-- `DEC E` (R149). -/
def execDec_e (s : State) : Out := decR .e s

/-- `INC H` (R147). -/
def execInc_h (s : State) : Out := incR .h s

/-- `DEC H` (R149). -/
def execDec_h (s : State) : Out := decR .h s

/-- `DAA` (R151). -/
def execDaa (s : State) : Out := adjustA s

/-- `INC L` (R147). -/
def execInc_l (s : State) : Out := incR .l s

/-- `DEC L` (R149). -/
def execDec_l (s : State) : Out := decR .l s

/-- `CPL` (R152). -/
def execCpl (s : State) : Out := complementA s

/-- `INC (HL)` (R148). -/
def execInc_mHL (s : State) : Out := incM s

/-- `DEC (HL)` (R150). -/
def execDec_mHL (s : State) : Out := decM s

/-- `SCF` (R153). -/
def execScf (s : State) : Out := setCarry s

/-- `INC A` (R147). -/
def execInc_a (s : State) : Out := incR .a s

/-- `DEC A` (R149). -/
def execDec_a (s : State) : Out := decR .a s

/-- `CCF` (R154). -/
def execCcf (s : State) : Out := flipCarry s

/-- `ADD A, B` (R123). -/
def execAdd_a_b (s : State) : Out := aluR .add .b s

/-- `ADD A, C` (R123). -/
def execAdd_a_c (s : State) : Out := aluR .add .c s

/-- `ADD A, D` (R123). -/
def execAdd_a_d (s : State) : Out := aluR .add .d s

/-- `ADD A, E` (R123). -/
def execAdd_a_e (s : State) : Out := aluR .add .e s

/-- `ADD A, H` (R123). -/
def execAdd_a_h (s : State) : Out := aluR .add .h s

/-- `ADD A, L` (R123). -/
def execAdd_a_l (s : State) : Out := aluR .add .l s

/-- `ADD A, (HL)` (R124). -/
def execAdd_a_mHL (s : State) : Out := aluM .add s

/-- `ADD A, A` (R123). -/
def execAdd_a_a (s : State) : Out := aluR .add .a s

/-- `ADC A, B` (R126). -/
def execAdc_a_b (s : State) : Out := aluR .adc .b s

/-- `ADC A, C` (R126). -/
def execAdc_a_c (s : State) : Out := aluR .adc .c s

/-- `ADC A, D` (R126). -/
def execAdc_a_d (s : State) : Out := aluR .adc .d s

/-- `ADC A, E` (R126). -/
def execAdc_a_e (s : State) : Out := aluR .adc .e s

/-- `ADC A, H` (R126). -/
def execAdc_a_h (s : State) : Out := aluR .adc .h s

/-- `ADC A, L` (R126). -/
def execAdc_a_l (s : State) : Out := aluR .adc .l s

/-- `ADC A, (HL)` (R127). -/
def execAdc_a_mHL (s : State) : Out := aluM .adc s

/-- `ADC A, A` (R126). -/
def execAdc_a_a (s : State) : Out := aluR .adc .a s

/-- `SUB A, B` (R129). -/
def execSub_a_b (s : State) : Out := aluR .sub .b s

/-- `SUB A, C` (R129). -/
def execSub_a_c (s : State) : Out := aluR .sub .c s

/-- `SUB A, D` (R129). -/
def execSub_a_d (s : State) : Out := aluR .sub .d s

/-- `SUB A, E` (R129). -/
def execSub_a_e (s : State) : Out := aluR .sub .e s

/-- `SUB A, H` (R129). -/
def execSub_a_h (s : State) : Out := aluR .sub .h s

/-- `SUB A, L` (R129). -/
def execSub_a_l (s : State) : Out := aluR .sub .l s

/-- `SUB A, (HL)` (R130). -/
def execSub_a_mHL (s : State) : Out := aluM .sub s

/-- `SUB A, A` (R129). -/
def execSub_a_a (s : State) : Out := aluR .sub .a s

/-- `SBC A, B` (R132). -/
def execSbc_a_b (s : State) : Out := aluR .sbc .b s

/-- `SBC A, C` (R132). -/
def execSbc_a_c (s : State) : Out := aluR .sbc .c s

/-- `SBC A, D` (R132). -/
def execSbc_a_d (s : State) : Out := aluR .sbc .d s

/-- `SBC A, E` (R132). -/
def execSbc_a_e (s : State) : Out := aluR .sbc .e s

/-- `SBC A, H` (R132). -/
def execSbc_a_h (s : State) : Out := aluR .sbc .h s

/-- `SBC A, L` (R132). -/
def execSbc_a_l (s : State) : Out := aluR .sbc .l s

/-- `SBC A, (HL)` (R133). -/
def execSbc_a_mHL (s : State) : Out := aluM .sbc s

/-- `SBC A, A` (R132). -/
def execSbc_a_a (s : State) : Out := aluR .sbc .a s

/-- `AND A, B` (R135). -/
def execAnd_a_b (s : State) : Out := aluR .and .b s

/-- `AND A, C` (R135). -/
def execAnd_a_c (s : State) : Out := aluR .and .c s

/-- `AND A, D` (R135). -/
def execAnd_a_d (s : State) : Out := aluR .and .d s

/-- `AND A, E` (R135). -/
def execAnd_a_e (s : State) : Out := aluR .and .e s

/-- `AND A, H` (R135). -/
def execAnd_a_h (s : State) : Out := aluR .and .h s

/-- `AND A, L` (R135). -/
def execAnd_a_l (s : State) : Out := aluR .and .l s

/-- `AND A, (HL)` (R136). -/
def execAnd_a_mHL (s : State) : Out := aluM .and s

/-- `AND A, A` (R135). -/
def execAnd_a_a (s : State) : Out := aluR .and .a s

/-- `XOR A, B` (R138). -/
def execXor_a_b (s : State) : Out := aluR .xor .b s

/-- `XOR A, C` (R138). -/
def execXor_a_c (s : State) : Out := aluR .xor .c s

/-- `XOR A, D` (R138). -/
def execXor_a_d (s : State) : Out := aluR .xor .d s

/-- `XOR A, E` (R138). -/
def execXor_a_e (s : State) : Out := aluR .xor .e s

/-- `XOR A, H` (R138). -/
def execXor_a_h (s : State) : Out := aluR .xor .h s

/-- `XOR A, L` (R138). -/
def execXor_a_l (s : State) : Out := aluR .xor .l s

/-- `XOR A, (HL)` (R139). -/
def execXor_a_mHL (s : State) : Out := aluM .xor s

/-- `XOR A, A` (R138). -/
def execXor_a_a (s : State) : Out := aluR .xor .a s

/-- `OR A, B` (R141). -/
def execOr_a_b (s : State) : Out := aluR .or .b s

/-- `OR A, C` (R141). -/
def execOr_a_c (s : State) : Out := aluR .or .c s

/-- `OR A, D` (R141). -/
def execOr_a_d (s : State) : Out := aluR .or .d s

/-- `OR A, E` (R141). -/
def execOr_a_e (s : State) : Out := aluR .or .e s

/-- `OR A, H` (R141). -/
def execOr_a_h (s : State) : Out := aluR .or .h s

/-- `OR A, L` (R141). -/
def execOr_a_l (s : State) : Out := aluR .or .l s

/-- `OR A, (HL)` (R142). -/
def execOr_a_mHL (s : State) : Out := aluM .or s

/-- `OR A, A` (R141). -/
def execOr_a_a (s : State) : Out := aluR .or .a s

/-- `CP A, B` (R144). -/
def execCp_a_b (s : State) : Out := aluR .cp .b s

/-- `CP A, C` (R144). -/
def execCp_a_c (s : State) : Out := aluR .cp .c s

/-- `CP A, D` (R144). -/
def execCp_a_d (s : State) : Out := aluR .cp .d s

/-- `CP A, E` (R144). -/
def execCp_a_e (s : State) : Out := aluR .cp .e s

/-- `CP A, H` (R144). -/
def execCp_a_h (s : State) : Out := aluR .cp .h s

/-- `CP A, L` (R144). -/
def execCp_a_l (s : State) : Out := aluR .cp .l s

/-- `CP A, (HL)` (R145). -/
def execCp_a_mHL (s : State) : Out := aluM .cp s

/-- `CP A, A` (R144). -/
def execCp_a_a (s : State) : Out := aluR .cp .a s

/-- `ADD A, n8` (R125). -/
def execAdd_a_n8 (n : Byte) (s : State) : Out := aluN .add n s

/-- `ADC A, n8` (R128). -/
def execAdc_a_n8 (n : Byte) (s : State) : Out := aluN .adc n s

/-- `SUB A, n8` (R131). -/
def execSub_a_n8 (n : Byte) (s : State) : Out := aluN .sub n s

/-- `SBC A, n8` (R134). -/
def execSbc_a_n8 (n : Byte) (s : State) : Out := aluN .sbc n s

/-- `AND A, n8` (R137). -/
def execAnd_a_n8 (n : Byte) (s : State) : Out := aluN .and n s

/-- `XOR A, n8` (R140). -/
def execXor_a_n8 (n : Byte) (s : State) : Out := aluN .xor n s

/-- `OR A, n8` (R143). -/
def execOr_a_n8 (n : Byte) (s : State) : Out := aluN .or n s

/-- `CP A, n8` (R146). -/
def execCp_a_n8 (n : Byte) (s : State) : Out := aluN .cp n s

end Sys2Proof.Machine
end

