-- ==== Sys2Proof/Machine/Bits.lean ====
section
/-! DEFINITION. Bit test, reset and set (43_rotate_shift_bit.md R182-R187). -/

namespace Sys2Proof.Machine

/-! ## Shared shapes -/

/-- `BIT u3, r8` (R182). -/
def testBitR (b : Fin 8) (r : Reg8) (s : State) : Out := .next ((s.setF (bitFlags b (s.getR r) s.f)).charge 8)

/-- `BIT u3, (HL)` (R183). -/
def testBitM (b : Fin 8) (s : State) : Out :=
  andThen (read8 s.hl s) fun v => .next ((v.2.setF (bitFlags b v.1 v.2.f)).charge 12)

/-- `RES u3, r8` (R184). -/
def resetBitR (b : Fin 8) (r : Reg8) (s : State) : Out := .next ((s.setR r (resetBit b (s.getR r))).charge 8)

/-- The byte at HL replaced by a function of itself: one read, one write, the write made whatever the value (R165). -/
def modifyM (g : Byte → Byte) (s : State) : Out :=
  andThen (read8 s.hl s) fun v =>
  andThen (write8 s.hl (g v.1) v.2) fun s1 => .next (s1.charge 16)

/-- `RES u3, (HL)` (R185). -/
def resetBitM (b : Fin 8) (s : State) : Out := modifyM (resetBit b) s

/-- `SET u3, r8` (R186). -/
def setBitR (b : Fin 8) (r : Reg8) (s : State) : Out := .next ((s.setR r (setBit b (s.getR r))).charge 8)

/-- `SET u3, (HL)` (R187). -/
def setBitM (b : Fin 8) (s : State) : Out := modifyM (setBit b) s

/-! ## The instructions -/

/-- `BIT 0, B` (R182). -/
def execBit_0_b (s : State) : Out := testBitR 0 .b s

/-- `BIT 0, C` (R182). -/
def execBit_0_c (s : State) : Out := testBitR 0 .c s

/-- `BIT 0, D` (R182). -/
def execBit_0_d (s : State) : Out := testBitR 0 .d s

/-- `BIT 0, E` (R182). -/
def execBit_0_e (s : State) : Out := testBitR 0 .e s

/-- `BIT 0, H` (R182). -/
def execBit_0_h (s : State) : Out := testBitR 0 .h s

/-- `BIT 0, L` (R182). -/
def execBit_0_l (s : State) : Out := testBitR 0 .l s

/-- `BIT 0, (HL)` (R183). -/
def execBit_0_mHL (s : State) : Out := testBitM 0 s

/-- `BIT 0, A` (R182). -/
def execBit_0_a (s : State) : Out := testBitR 0 .a s

/-- `BIT 1, B` (R182). -/
def execBit_1_b (s : State) : Out := testBitR 1 .b s

/-- `BIT 1, C` (R182). -/
def execBit_1_c (s : State) : Out := testBitR 1 .c s

/-- `BIT 1, D` (R182). -/
def execBit_1_d (s : State) : Out := testBitR 1 .d s

/-- `BIT 1, E` (R182). -/
def execBit_1_e (s : State) : Out := testBitR 1 .e s

/-- `BIT 1, H` (R182). -/
def execBit_1_h (s : State) : Out := testBitR 1 .h s

/-- `BIT 1, L` (R182). -/
def execBit_1_l (s : State) : Out := testBitR 1 .l s

/-- `BIT 1, (HL)` (R183). -/
def execBit_1_mHL (s : State) : Out := testBitM 1 s

/-- `BIT 1, A` (R182). -/
def execBit_1_a (s : State) : Out := testBitR 1 .a s

/-- `BIT 2, B` (R182). -/
def execBit_2_b (s : State) : Out := testBitR 2 .b s

/-- `BIT 2, C` (R182). -/
def execBit_2_c (s : State) : Out := testBitR 2 .c s

/-- `BIT 2, D` (R182). -/
def execBit_2_d (s : State) : Out := testBitR 2 .d s

/-- `BIT 2, E` (R182). -/
def execBit_2_e (s : State) : Out := testBitR 2 .e s

/-- `BIT 2, H` (R182). -/
def execBit_2_h (s : State) : Out := testBitR 2 .h s

/-- `BIT 2, L` (R182). -/
def execBit_2_l (s : State) : Out := testBitR 2 .l s

/-- `BIT 2, (HL)` (R183). -/
def execBit_2_mHL (s : State) : Out := testBitM 2 s

/-- `BIT 2, A` (R182). -/
def execBit_2_a (s : State) : Out := testBitR 2 .a s

/-- `BIT 3, B` (R182). -/
def execBit_3_b (s : State) : Out := testBitR 3 .b s

/-- `BIT 3, C` (R182). -/
def execBit_3_c (s : State) : Out := testBitR 3 .c s

/-- `BIT 3, D` (R182). -/
def execBit_3_d (s : State) : Out := testBitR 3 .d s

/-- `BIT 3, E` (R182). -/
def execBit_3_e (s : State) : Out := testBitR 3 .e s

/-- `BIT 3, H` (R182). -/
def execBit_3_h (s : State) : Out := testBitR 3 .h s

/-- `BIT 3, L` (R182). -/
def execBit_3_l (s : State) : Out := testBitR 3 .l s

/-- `BIT 3, (HL)` (R183). -/
def execBit_3_mHL (s : State) : Out := testBitM 3 s

/-- `BIT 3, A` (R182). -/
def execBit_3_a (s : State) : Out := testBitR 3 .a s

/-- `BIT 4, B` (R182). -/
def execBit_4_b (s : State) : Out := testBitR 4 .b s

/-- `BIT 4, C` (R182). -/
def execBit_4_c (s : State) : Out := testBitR 4 .c s

/-- `BIT 4, D` (R182). -/
def execBit_4_d (s : State) : Out := testBitR 4 .d s

/-- `BIT 4, E` (R182). -/
def execBit_4_e (s : State) : Out := testBitR 4 .e s

/-- `BIT 4, H` (R182). -/
def execBit_4_h (s : State) : Out := testBitR 4 .h s

/-- `BIT 4, L` (R182). -/
def execBit_4_l (s : State) : Out := testBitR 4 .l s

/-- `BIT 4, (HL)` (R183). -/
def execBit_4_mHL (s : State) : Out := testBitM 4 s

/-- `BIT 4, A` (R182). -/
def execBit_4_a (s : State) : Out := testBitR 4 .a s

/-- `BIT 5, B` (R182). -/
def execBit_5_b (s : State) : Out := testBitR 5 .b s

/-- `BIT 5, C` (R182). -/
def execBit_5_c (s : State) : Out := testBitR 5 .c s

/-- `BIT 5, D` (R182). -/
def execBit_5_d (s : State) : Out := testBitR 5 .d s

/-- `BIT 5, E` (R182). -/
def execBit_5_e (s : State) : Out := testBitR 5 .e s

/-- `BIT 5, H` (R182). -/
def execBit_5_h (s : State) : Out := testBitR 5 .h s

/-- `BIT 5, L` (R182). -/
def execBit_5_l (s : State) : Out := testBitR 5 .l s

/-- `BIT 5, (HL)` (R183). -/
def execBit_5_mHL (s : State) : Out := testBitM 5 s

/-- `BIT 5, A` (R182). -/
def execBit_5_a (s : State) : Out := testBitR 5 .a s

/-- `BIT 6, B` (R182). -/
def execBit_6_b (s : State) : Out := testBitR 6 .b s

/-- `BIT 6, C` (R182). -/
def execBit_6_c (s : State) : Out := testBitR 6 .c s

/-- `BIT 6, D` (R182). -/
def execBit_6_d (s : State) : Out := testBitR 6 .d s

/-- `BIT 6, E` (R182). -/
def execBit_6_e (s : State) : Out := testBitR 6 .e s

/-- `BIT 6, H` (R182). -/
def execBit_6_h (s : State) : Out := testBitR 6 .h s

/-- `BIT 6, L` (R182). -/
def execBit_6_l (s : State) : Out := testBitR 6 .l s

/-- `BIT 6, (HL)` (R183). -/
def execBit_6_mHL (s : State) : Out := testBitM 6 s

/-- `BIT 6, A` (R182). -/
def execBit_6_a (s : State) : Out := testBitR 6 .a s

/-- `BIT 7, B` (R182). -/
def execBit_7_b (s : State) : Out := testBitR 7 .b s

/-- `BIT 7, C` (R182). -/
def execBit_7_c (s : State) : Out := testBitR 7 .c s

/-- `BIT 7, D` (R182). -/
def execBit_7_d (s : State) : Out := testBitR 7 .d s

/-- `BIT 7, E` (R182). -/
def execBit_7_e (s : State) : Out := testBitR 7 .e s

/-- `BIT 7, H` (R182). -/
def execBit_7_h (s : State) : Out := testBitR 7 .h s

/-- `BIT 7, L` (R182). -/
def execBit_7_l (s : State) : Out := testBitR 7 .l s

/-- `BIT 7, (HL)` (R183). -/
def execBit_7_mHL (s : State) : Out := testBitM 7 s

/-- `BIT 7, A` (R182). -/
def execBit_7_a (s : State) : Out := testBitR 7 .a s

/-- `RES 0, B` (R184). -/
def execRes_0_b (s : State) : Out := resetBitR 0 .b s

/-- `RES 0, C` (R184). -/
def execRes_0_c (s : State) : Out := resetBitR 0 .c s

/-- `RES 0, D` (R184). -/
def execRes_0_d (s : State) : Out := resetBitR 0 .d s

/-- `RES 0, E` (R184). -/
def execRes_0_e (s : State) : Out := resetBitR 0 .e s

/-- `RES 0, H` (R184). -/
def execRes_0_h (s : State) : Out := resetBitR 0 .h s

/-- `RES 0, L` (R184). -/
def execRes_0_l (s : State) : Out := resetBitR 0 .l s

/-- `RES 0, (HL)` (R185). -/
def execRes_0_mHL (s : State) : Out := resetBitM 0 s

/-- `RES 0, A` (R184). -/
def execRes_0_a (s : State) : Out := resetBitR 0 .a s

/-- `RES 1, B` (R184). -/
def execRes_1_b (s : State) : Out := resetBitR 1 .b s

/-- `RES 1, C` (R184). -/
def execRes_1_c (s : State) : Out := resetBitR 1 .c s

/-- `RES 1, D` (R184). -/
def execRes_1_d (s : State) : Out := resetBitR 1 .d s

/-- `RES 1, E` (R184). -/
def execRes_1_e (s : State) : Out := resetBitR 1 .e s

/-- `RES 1, H` (R184). -/
def execRes_1_h (s : State) : Out := resetBitR 1 .h s

/-- `RES 1, L` (R184). -/
def execRes_1_l (s : State) : Out := resetBitR 1 .l s

/-- `RES 1, (HL)` (R185). -/
def execRes_1_mHL (s : State) : Out := resetBitM 1 s

/-- `RES 1, A` (R184). -/
def execRes_1_a (s : State) : Out := resetBitR 1 .a s

/-- `RES 2, B` (R184). -/
def execRes_2_b (s : State) : Out := resetBitR 2 .b s

/-- `RES 2, C` (R184). -/
def execRes_2_c (s : State) : Out := resetBitR 2 .c s

/-- `RES 2, D` (R184). -/
def execRes_2_d (s : State) : Out := resetBitR 2 .d s

/-- `RES 2, E` (R184). -/
def execRes_2_e (s : State) : Out := resetBitR 2 .e s

/-- `RES 2, H` (R184). -/
def execRes_2_h (s : State) : Out := resetBitR 2 .h s

/-- `RES 2, L` (R184). -/
def execRes_2_l (s : State) : Out := resetBitR 2 .l s

/-- `RES 2, (HL)` (R185). -/
def execRes_2_mHL (s : State) : Out := resetBitM 2 s

/-- `RES 2, A` (R184). -/
def execRes_2_a (s : State) : Out := resetBitR 2 .a s

/-- `RES 3, B` (R184). -/
def execRes_3_b (s : State) : Out := resetBitR 3 .b s

/-- `RES 3, C` (R184). -/
def execRes_3_c (s : State) : Out := resetBitR 3 .c s

/-- `RES 3, D` (R184). -/
def execRes_3_d (s : State) : Out := resetBitR 3 .d s

/-- `RES 3, E` (R184). -/
def execRes_3_e (s : State) : Out := resetBitR 3 .e s

/-- `RES 3, H` (R184). -/
def execRes_3_h (s : State) : Out := resetBitR 3 .h s

/-- `RES 3, L` (R184). -/
def execRes_3_l (s : State) : Out := resetBitR 3 .l s

/-- `RES 3, (HL)` (R185). -/
def execRes_3_mHL (s : State) : Out := resetBitM 3 s

/-- `RES 3, A` (R184). -/
def execRes_3_a (s : State) : Out := resetBitR 3 .a s

/-- `RES 4, B` (R184). -/
def execRes_4_b (s : State) : Out := resetBitR 4 .b s

/-- `RES 4, C` (R184). -/
def execRes_4_c (s : State) : Out := resetBitR 4 .c s

/-- `RES 4, D` (R184). -/
def execRes_4_d (s : State) : Out := resetBitR 4 .d s

/-- `RES 4, E` (R184). -/
def execRes_4_e (s : State) : Out := resetBitR 4 .e s

/-- `RES 4, H` (R184). -/
def execRes_4_h (s : State) : Out := resetBitR 4 .h s

/-- `RES 4, L` (R184). -/
def execRes_4_l (s : State) : Out := resetBitR 4 .l s

/-- `RES 4, (HL)` (R185). -/
def execRes_4_mHL (s : State) : Out := resetBitM 4 s

/-- `RES 4, A` (R184). -/
def execRes_4_a (s : State) : Out := resetBitR 4 .a s

/-- `RES 5, B` (R184). -/
def execRes_5_b (s : State) : Out := resetBitR 5 .b s

/-- `RES 5, C` (R184). -/
def execRes_5_c (s : State) : Out := resetBitR 5 .c s

/-- `RES 5, D` (R184). -/
def execRes_5_d (s : State) : Out := resetBitR 5 .d s

/-- `RES 5, E` (R184). -/
def execRes_5_e (s : State) : Out := resetBitR 5 .e s

/-- `RES 5, H` (R184). -/
def execRes_5_h (s : State) : Out := resetBitR 5 .h s

/-- `RES 5, L` (R184). -/
def execRes_5_l (s : State) : Out := resetBitR 5 .l s

/-- `RES 5, (HL)` (R185). -/
def execRes_5_mHL (s : State) : Out := resetBitM 5 s

/-- `RES 5, A` (R184). -/
def execRes_5_a (s : State) : Out := resetBitR 5 .a s

/-- `RES 6, B` (R184). -/
def execRes_6_b (s : State) : Out := resetBitR 6 .b s

/-- `RES 6, C` (R184). -/
def execRes_6_c (s : State) : Out := resetBitR 6 .c s

/-- `RES 6, D` (R184). -/
def execRes_6_d (s : State) : Out := resetBitR 6 .d s

/-- `RES 6, E` (R184). -/
def execRes_6_e (s : State) : Out := resetBitR 6 .e s

/-- `RES 6, H` (R184). -/
def execRes_6_h (s : State) : Out := resetBitR 6 .h s

/-- `RES 6, L` (R184). -/
def execRes_6_l (s : State) : Out := resetBitR 6 .l s

/-- `RES 6, (HL)` (R185). -/
def execRes_6_mHL (s : State) : Out := resetBitM 6 s

/-- `RES 6, A` (R184). -/
def execRes_6_a (s : State) : Out := resetBitR 6 .a s

/-- `RES 7, B` (R184). -/
def execRes_7_b (s : State) : Out := resetBitR 7 .b s

/-- `RES 7, C` (R184). -/
def execRes_7_c (s : State) : Out := resetBitR 7 .c s

/-- `RES 7, D` (R184). -/
def execRes_7_d (s : State) : Out := resetBitR 7 .d s

/-- `RES 7, E` (R184). -/
def execRes_7_e (s : State) : Out := resetBitR 7 .e s

/-- `RES 7, H` (R184). -/
def execRes_7_h (s : State) : Out := resetBitR 7 .h s

/-- `RES 7, L` (R184). -/
def execRes_7_l (s : State) : Out := resetBitR 7 .l s

/-- `RES 7, (HL)` (R185). -/
def execRes_7_mHL (s : State) : Out := resetBitM 7 s

/-- `RES 7, A` (R184). -/
def execRes_7_a (s : State) : Out := resetBitR 7 .a s

/-- `SET 0, B` (R186). -/
def execSet_0_b (s : State) : Out := setBitR 0 .b s

/-- `SET 0, C` (R186). -/
def execSet_0_c (s : State) : Out := setBitR 0 .c s

/-- `SET 0, D` (R186). -/
def execSet_0_d (s : State) : Out := setBitR 0 .d s

/-- `SET 0, E` (R186). -/
def execSet_0_e (s : State) : Out := setBitR 0 .e s

/-- `SET 0, H` (R186). -/
def execSet_0_h (s : State) : Out := setBitR 0 .h s

/-- `SET 0, L` (R186). -/
def execSet_0_l (s : State) : Out := setBitR 0 .l s

/-- `SET 0, (HL)` (R187). -/
def execSet_0_mHL (s : State) : Out := setBitM 0 s

/-- `SET 0, A` (R186). -/
def execSet_0_a (s : State) : Out := setBitR 0 .a s

/-- `SET 1, B` (R186). -/
def execSet_1_b (s : State) : Out := setBitR 1 .b s

/-- `SET 1, C` (R186). -/
def execSet_1_c (s : State) : Out := setBitR 1 .c s

/-- `SET 1, D` (R186). -/
def execSet_1_d (s : State) : Out := setBitR 1 .d s

/-- `SET 1, E` (R186). -/
def execSet_1_e (s : State) : Out := setBitR 1 .e s

/-- `SET 1, H` (R186). -/
def execSet_1_h (s : State) : Out := setBitR 1 .h s

/-- `SET 1, L` (R186). -/
def execSet_1_l (s : State) : Out := setBitR 1 .l s

/-- `SET 1, (HL)` (R187). -/
def execSet_1_mHL (s : State) : Out := setBitM 1 s

/-- `SET 1, A` (R186). -/
def execSet_1_a (s : State) : Out := setBitR 1 .a s

/-- `SET 2, B` (R186). -/
def execSet_2_b (s : State) : Out := setBitR 2 .b s

/-- `SET 2, C` (R186). -/
def execSet_2_c (s : State) : Out := setBitR 2 .c s

/-- `SET 2, D` (R186). -/
def execSet_2_d (s : State) : Out := setBitR 2 .d s

/-- `SET 2, E` (R186). -/
def execSet_2_e (s : State) : Out := setBitR 2 .e s

/-- `SET 2, H` (R186). -/
def execSet_2_h (s : State) : Out := setBitR 2 .h s

/-- `SET 2, L` (R186). -/
def execSet_2_l (s : State) : Out := setBitR 2 .l s

/-- `SET 2, (HL)` (R187). -/
def execSet_2_mHL (s : State) : Out := setBitM 2 s

/-- `SET 2, A` (R186). -/
def execSet_2_a (s : State) : Out := setBitR 2 .a s

/-- `SET 3, B` (R186). -/
def execSet_3_b (s : State) : Out := setBitR 3 .b s

/-- `SET 3, C` (R186). -/
def execSet_3_c (s : State) : Out := setBitR 3 .c s

/-- `SET 3, D` (R186). -/
def execSet_3_d (s : State) : Out := setBitR 3 .d s

/-- `SET 3, E` (R186). -/
def execSet_3_e (s : State) : Out := setBitR 3 .e s

/-- `SET 3, H` (R186). -/
def execSet_3_h (s : State) : Out := setBitR 3 .h s

/-- `SET 3, L` (R186). -/
def execSet_3_l (s : State) : Out := setBitR 3 .l s

/-- `SET 3, (HL)` (R187). -/
def execSet_3_mHL (s : State) : Out := setBitM 3 s

/-- `SET 3, A` (R186). -/
def execSet_3_a (s : State) : Out := setBitR 3 .a s

/-- `SET 4, B` (R186). -/
def execSet_4_b (s : State) : Out := setBitR 4 .b s

/-- `SET 4, C` (R186). -/
def execSet_4_c (s : State) : Out := setBitR 4 .c s

/-- `SET 4, D` (R186). -/
def execSet_4_d (s : State) : Out := setBitR 4 .d s

/-- `SET 4, E` (R186). -/
def execSet_4_e (s : State) : Out := setBitR 4 .e s

/-- `SET 4, H` (R186). -/
def execSet_4_h (s : State) : Out := setBitR 4 .h s

/-- `SET 4, L` (R186). -/
def execSet_4_l (s : State) : Out := setBitR 4 .l s

/-- `SET 4, (HL)` (R187). -/
def execSet_4_mHL (s : State) : Out := setBitM 4 s

/-- `SET 4, A` (R186). -/
def execSet_4_a (s : State) : Out := setBitR 4 .a s

/-- `SET 5, B` (R186). -/
def execSet_5_b (s : State) : Out := setBitR 5 .b s

/-- `SET 5, C` (R186). -/
def execSet_5_c (s : State) : Out := setBitR 5 .c s

/-- `SET 5, D` (R186). -/
def execSet_5_d (s : State) : Out := setBitR 5 .d s

/-- `SET 5, E` (R186). -/
def execSet_5_e (s : State) : Out := setBitR 5 .e s

/-- `SET 5, H` (R186). -/
def execSet_5_h (s : State) : Out := setBitR 5 .h s

/-- `SET 5, L` (R186). -/
def execSet_5_l (s : State) : Out := setBitR 5 .l s

/-- `SET 5, (HL)` (R187). -/
def execSet_5_mHL (s : State) : Out := setBitM 5 s

/-- `SET 5, A` (R186). -/
def execSet_5_a (s : State) : Out := setBitR 5 .a s

/-- `SET 6, B` (R186). -/
def execSet_6_b (s : State) : Out := setBitR 6 .b s

/-- `SET 6, C` (R186). -/
def execSet_6_c (s : State) : Out := setBitR 6 .c s

/-- `SET 6, D` (R186). -/
def execSet_6_d (s : State) : Out := setBitR 6 .d s

/-- `SET 6, E` (R186). -/
def execSet_6_e (s : State) : Out := setBitR 6 .e s

/-- `SET 6, H` (R186). -/
def execSet_6_h (s : State) : Out := setBitR 6 .h s

/-- `SET 6, L` (R186). -/
def execSet_6_l (s : State) : Out := setBitR 6 .l s

/-- `SET 6, (HL)` (R187). -/
def execSet_6_mHL (s : State) : Out := setBitM 6 s

/-- `SET 6, A` (R186). -/
def execSet_6_a (s : State) : Out := setBitR 6 .a s

/-- `SET 7, B` (R186). -/
def execSet_7_b (s : State) : Out := setBitR 7 .b s

/-- `SET 7, C` (R186). -/
def execSet_7_c (s : State) : Out := setBitR 7 .c s

/-- `SET 7, D` (R186). -/
def execSet_7_d (s : State) : Out := setBitR 7 .d s

/-- `SET 7, E` (R186). -/
def execSet_7_e (s : State) : Out := setBitR 7 .e s

/-- `SET 7, H` (R186). -/
def execSet_7_h (s : State) : Out := setBitR 7 .h s

/-- `SET 7, L` (R186). -/
def execSet_7_l (s : State) : Out := setBitR 7 .l s

/-- `SET 7, (HL)` (R187). -/
def execSet_7_mHL (s : State) : Out := setBitM 7 s

/-- `SET 7, A` (R186). -/
def execSet_7_a (s : State) : Out := setBitR 7 .a s

end Sys2Proof.Machine
end

