-- ==== Sys2Proof/Machine/Control.lean ====
section
/-! DEFINITION. Control transfer (44_control.md). `pc` holds `pc_next` when a meaning runs (00_scope.md R13). -/

namespace Sys2Proof.Machine

/-! ## Shared shapes -/

/-- `pc <- target`. -/
def jump (target : Word) (cost : Nat) (s : State) : Out := .next ((s.setPc target).charge cost)

/-- `pc <- target` if the condition holds; the cost says which branch was taken (30_encoding.md R95). -/
def jumpIf (cc : Cond) (target : Word) (taken notTaken : Nat) (s : State) : Out :=
  if cc.holds s.f then jump target taken s else .next (s.charge notTaken)

/-- `Push16(pc_next); pc <- target` (R193, R198). -/
def call (target : Word) (cost : Nat) (s : State) : Out :=
  andThen (push16 s.pc s) fun s1 => .next ((s1.setPc target).charge cost)

/-- `CALL cc` (R194). -/
def callIf (cc : Cond) (target : Word) (s : State) : Out :=
  if cc.holds s.f then call target 24 s else .next (s.charge 12)

/-- `pc <- Pop16()` (R195). -/
def ret (cost : Nat) (s : State) : Out := andThen (pop16 s) fun v => .next ((v.2.setPc v.1).charge cost)

/-- `RET cc` (R196). -/
def retIf (cc : Cond) (s : State) : Out := if cc.holds s.f then ret 20 s else .next (s.charge 8)

/-- `RETI` (R197). -/
def reti (s : State) : Out := andThen (returnFromInterrupt s) fun s1 => .next (s1.charge 16)

/-! ## The instructions -/

/-- `JR e8` (R191). -/
def execJr_e8 (e : Byte) (s : State) : Out := jump (s.pc + sext16 e) 12 s

/-- `JR NZ, e8` (R192). -/
def execJr_nz_e8 (e : Byte) (s : State) : Out := jumpIf .nz (s.pc + sext16 e) 12 8 s

/-- `JR Z, e8` (R192). -/
def execJr_z_e8 (e : Byte) (s : State) : Out := jumpIf .z (s.pc + sext16 e) 12 8 s

/-- `JR NC, e8` (R192). -/
def execJr_nc_e8 (e : Byte) (s : State) : Out := jumpIf .nc (s.pc + sext16 e) 12 8 s

/-- `JR C, e8` (R192). -/
def execJr_c_e8 (e : Byte) (s : State) : Out := jumpIf .c (s.pc + sext16 e) 12 8 s

/-- `RET NZ` (R196). -/
def execRet_nz (s : State) : Out := retIf .nz s

/-- `JP NZ, a16` (R189). -/
def execJp_nz_a16 (a : Word) (s : State) : Out := jumpIf .nz a 16 12 s

/-- `JP a16` (R188). -/
def execJp_a16 (a : Word) (s : State) : Out := jump a 16 s

/-- `CALL NZ, a16` (R194). -/
def execCall_nz_a16 (a : Word) (s : State) : Out := callIf .nz a s

/-- `RST 0x00` (R198). -/
def execRst_00 (s : State) : Out := call 0x0000#16 16 s

/-- `RET Z` (R196). -/
def execRet_z (s : State) : Out := retIf .z s

/-- `RET` (R195). -/
def execRet (s : State) : Out := ret 16 s

/-- `JP Z, a16` (R189). -/
def execJp_z_a16 (a : Word) (s : State) : Out := jumpIf .z a 16 12 s

/-- `CALL Z, a16` (R194). -/
def execCall_z_a16 (a : Word) (s : State) : Out := callIf .z a s

/-- `CALL a16` (R193). -/
def execCall_a16 (a : Word) (s : State) : Out := call a 24 s

/-- `RST 0x08` (R198). -/
def execRst_08 (s : State) : Out := call 0x0008#16 16 s

/-- `RET NC` (R196). -/
def execRet_nc (s : State) : Out := retIf .nc s

/-- `JP NC, a16` (R189). -/
def execJp_nc_a16 (a : Word) (s : State) : Out := jumpIf .nc a 16 12 s

/-- `CALL NC, a16` (R194). -/
def execCall_nc_a16 (a : Word) (s : State) : Out := callIf .nc a s

/-- `RST 0x10` (R198). -/
def execRst_10 (s : State) : Out := call 0x0010#16 16 s

/-- `RET C` (R196). -/
def execRet_c (s : State) : Out := retIf .c s

/-- `RETI` (R197). -/
def execReti (s : State) : Out := reti s

/-- `JP C, a16` (R189). -/
def execJp_c_a16 (a : Word) (s : State) : Out := jumpIf .c a 16 12 s

/-- `CALL C, a16` (R194). -/
def execCall_c_a16 (a : Word) (s : State) : Out := callIf .c a s

/-- `RST 0x18` (R198). -/
def execRst_18 (s : State) : Out := call 0x0018#16 16 s

/-- `RST 0x20` (R198). -/
def execRst_20 (s : State) : Out := call 0x0020#16 16 s

/-- `JP HL` (R190). -/
def execJp_hl (s : State) : Out := jump s.hl 4 s

/-- `RST 0x28` (R198). -/
def execRst_28 (s : State) : Out := call 0x0028#16 16 s

/-- `RST 0x30` (R198). -/
def execRst_30 (s : State) : Out := call 0x0030#16 16 s

/-- `RST 0x38` (R198). -/
def execRst_38 (s : State) : Out := call 0x0038#16 16 s

end Sys2Proof.Machine
end

