-- ==== Sys2Proof/Machine/Load.lean ====
section
/-! DEFINITION. Loads, stores and stack transfers (40_load.md). -/

namespace Sys2Proof.Machine

/-! ## Shared shapes -/

/-- `x[d] <- x[s]`. -/
def ldRR (dst src : Reg8) (s : State) : Out := .next ((s.setR dst (s.getR src)).charge 4)

/-- `x[d] <- n8`. -/
def ldRN (dst : Reg8) (n : Byte) (s : State) : Out := .next ((s.setR dst n).charge 8)

/-- `x[d] <- MemRead(a, 1)`. -/
def loadR (dst : Reg8) (a : Word) (cost : Nat) (s : State) : Out :=
  andThen (read8 a s) fun v => .next ((v.2.setR dst v.1).charge cost)

/-- `MemWrite(a, 1, v)`. -/
def store (a : Word) (v : Byte) (cost : Nat) (s : State) : Out :=
  andThen (write8 a v s) fun s1 => .next (s1.charge cost)

/-- `x[HL] <- x[HL] + k`. -/
def State.moveHL (s : State) (k : Word) : State := s.setHL (s.hl + k)

/-- `x[A] <- MemRead(x[HL], 1); x[HL] <- x[HL] + k` (R111, R112). -/
def loadAMoveHL (k : Word) (s : State) : Out :=
  andThen (read8 s.hl s) fun v => .next (((v.2.setR .a v.1).moveHL k).charge 8)

/-- `MemWrite(x[HL], 1, x[A]); x[HL] <- x[HL] + k` (R113, R114). -/
def storeAMoveHL (k : Word) (s : State) : Out :=
  andThen (write8 s.hl s.rA s) fun s1 => .next ((s1.moveHL k).charge 8)

/-- `x[rr] <- n16`. -/
def ldPairN (p : Pair) (n : Word) (s : State) : Out := .next ((s.setPair p n).charge 12)

/-- `MemWrite(a, 2, x[SP])`. -/
def storeSp (a : Word) (s : State) : Out := andThen (write16 a s.sp s) fun s1 => .next (s1.charge 20)

/-- `x[SP] <- x[HL]`. -/
def ldSpHL (s : State) : Out := .next ((s.setPair .sp s.hl).charge 8)

/-- `Push16(x[rr])`. -/
def pushPair (p : StackPair) (s : State) : Out :=
  andThen (push16 (s.getStackPair p) s) fun s1 => .next (s1.charge 16)

/-- `x[rr] <- Pop16()`. -/
def popPair (p : StackPair) (s : State) : Out :=
  andThen (pop16 s) fun v => .next ((v.2.setStackPair p v.1).charge 12)

/-! ## The instructions -/

/-- `LD BC, n16` (R115). -/
def execLd_bc_n16 (n : Word) (s : State) : Out := ldPairN .bc n s

/-- `LD (BC), A` (R103). -/
def execLd_mBC_a (s : State) : Out := store s.bc s.rA 8 s

/-- `LD B, n8` (R97). -/
def execLd_b_n8 (n : Byte) (s : State) : Out := ldRN .b n s

/-- `LD (a16), SP` (R116). -/
def execLd_mA16_sp (a : Word) (s : State) : Out := storeSp a s

/-- `LD A, (BC)` (R101). -/
def execLd_a_mBC (s : State) : Out := loadR .a s.bc 8 s

/-- `LD C, n8` (R97). -/
def execLd_c_n8 (n : Byte) (s : State) : Out := ldRN .c n s

/-- `LD DE, n16` (R115). -/
def execLd_de_n16 (n : Word) (s : State) : Out := ldPairN .de n s

/-- `LD (DE), A` (R104). -/
def execLd_mDE_a (s : State) : Out := store s.de s.rA 8 s

/-- `LD D, n8` (R97). -/
def execLd_d_n8 (n : Byte) (s : State) : Out := ldRN .d n s

/-- `LD A, (DE)` (R102). -/
def execLd_a_mDE (s : State) : Out := loadR .a s.de 8 s

/-- `LD E, n8` (R97). -/
def execLd_e_n8 (n : Byte) (s : State) : Out := ldRN .e n s

/-- `LD HL, n16` (R115). -/
def execLd_hl_n16 (n : Word) (s : State) : Out := ldPairN .hl n s

/-- `LD (HL+), A` (R113). -/
def execLd_mHLinc_a (s : State) : Out := storeAMoveHL 1#16 s

/-- `LD H, n8` (R97). -/
def execLd_h_n8 (n : Byte) (s : State) : Out := ldRN .h n s

/-- `LD A, (HL+)` (R111). -/
def execLd_a_mHLinc (s : State) : Out := loadAMoveHL 1#16 s

/-- `LD L, n8` (R97). -/
def execLd_l_n8 (n : Byte) (s : State) : Out := ldRN .l n s

/-- `LD SP, n16` (R115). -/
def execLd_sp_n16 (n : Word) (s : State) : Out := ldPairN .sp n s

/-- `LD (HL-), A` (R114). -/
def execLd_mHLdec_a (s : State) : Out := storeAMoveHL (-1#16) s

/-- `LD (HL), n8` (R100). -/
def execLd_mHL_n8 (n : Byte) (s : State) : Out := store s.hl n 12 s

/-- `LD A, (HL-)` (R112). -/
def execLd_a_mHLdec (s : State) : Out := loadAMoveHL (-1#16) s

/-- `LD A, n8` (R97). -/
def execLd_a_n8 (n : Byte) (s : State) : Out := ldRN .a n s

/-- `LD B, B` (R96). -/
def execLd_b_b (s : State) : Out := ldRR .b .b s

/-- `LD B, C` (R96). -/
def execLd_b_c (s : State) : Out := ldRR .b .c s

/-- `LD B, D` (R96). -/
def execLd_b_d (s : State) : Out := ldRR .b .d s

/-- `LD B, E` (R96). -/
def execLd_b_e (s : State) : Out := ldRR .b .e s

/-- `LD B, H` (R96). -/
def execLd_b_h (s : State) : Out := ldRR .b .h s

/-- `LD B, L` (R96). -/
def execLd_b_l (s : State) : Out := ldRR .b .l s

/-- `LD B, (HL)` (R98). -/
def execLd_b_mHL (s : State) : Out := loadR .b s.hl 8 s

/-- `LD B, A` (R96). -/
def execLd_b_a (s : State) : Out := ldRR .b .a s

/-- `LD C, B` (R96). -/
def execLd_c_b (s : State) : Out := ldRR .c .b s

/-- `LD C, C` (R96). -/
def execLd_c_c (s : State) : Out := ldRR .c .c s

/-- `LD C, D` (R96). -/
def execLd_c_d (s : State) : Out := ldRR .c .d s

/-- `LD C, E` (R96). -/
def execLd_c_e (s : State) : Out := ldRR .c .e s

/-- `LD C, H` (R96). -/
def execLd_c_h (s : State) : Out := ldRR .c .h s

/-- `LD C, L` (R96). -/
def execLd_c_l (s : State) : Out := ldRR .c .l s

/-- `LD C, (HL)` (R98). -/
def execLd_c_mHL (s : State) : Out := loadR .c s.hl 8 s

/-- `LD C, A` (R96). -/
def execLd_c_a (s : State) : Out := ldRR .c .a s

/-- `LD D, B` (R96). -/
def execLd_d_b (s : State) : Out := ldRR .d .b s

/-- `LD D, C` (R96). -/
def execLd_d_c (s : State) : Out := ldRR .d .c s

/-- `LD D, D` (R96). -/
def execLd_d_d (s : State) : Out := ldRR .d .d s

/-- `LD D, E` (R96). -/
def execLd_d_e (s : State) : Out := ldRR .d .e s

/-- `LD D, H` (R96). -/
def execLd_d_h (s : State) : Out := ldRR .d .h s

/-- `LD D, L` (R96). -/
def execLd_d_l (s : State) : Out := ldRR .d .l s

/-- `LD D, (HL)` (R98). -/
def execLd_d_mHL (s : State) : Out := loadR .d s.hl 8 s

/-- `LD D, A` (R96). -/
def execLd_d_a (s : State) : Out := ldRR .d .a s

/-- `LD E, B` (R96). -/
def execLd_e_b (s : State) : Out := ldRR .e .b s

/-- `LD E, C` (R96). -/
def execLd_e_c (s : State) : Out := ldRR .e .c s

/-- `LD E, D` (R96). -/
def execLd_e_d (s : State) : Out := ldRR .e .d s

/-- `LD E, E` (R96). -/
def execLd_e_e (s : State) : Out := ldRR .e .e s

/-- `LD E, H` (R96). -/
def execLd_e_h (s : State) : Out := ldRR .e .h s

/-- `LD E, L` (R96). -/
def execLd_e_l (s : State) : Out := ldRR .e .l s

/-- `LD E, (HL)` (R98). -/
def execLd_e_mHL (s : State) : Out := loadR .e s.hl 8 s

/-- `LD E, A` (R96). -/
def execLd_e_a (s : State) : Out := ldRR .e .a s

/-- `LD H, B` (R96). -/
def execLd_h_b (s : State) : Out := ldRR .h .b s

/-- `LD H, C` (R96). -/
def execLd_h_c (s : State) : Out := ldRR .h .c s

/-- `LD H, D` (R96). -/
def execLd_h_d (s : State) : Out := ldRR .h .d s

/-- `LD H, E` (R96). -/
def execLd_h_e (s : State) : Out := ldRR .h .e s

/-- `LD H, H` (R96). -/
def execLd_h_h (s : State) : Out := ldRR .h .h s

/-- `LD H, L` (R96). -/
def execLd_h_l (s : State) : Out := ldRR .h .l s

/-- `LD H, (HL)` (R98). -/
def execLd_h_mHL (s : State) : Out := loadR .h s.hl 8 s

/-- `LD H, A` (R96). -/
def execLd_h_a (s : State) : Out := ldRR .h .a s

/-- `LD L, B` (R96). -/
def execLd_l_b (s : State) : Out := ldRR .l .b s

/-- `LD L, C` (R96). -/
def execLd_l_c (s : State) : Out := ldRR .l .c s

/-- `LD L, D` (R96). -/
def execLd_l_d (s : State) : Out := ldRR .l .d s

/-- `LD L, E` (R96). -/
def execLd_l_e (s : State) : Out := ldRR .l .e s

/-- `LD L, H` (R96). -/
def execLd_l_h (s : State) : Out := ldRR .l .h s

/-- `LD L, L` (R96). -/
def execLd_l_l (s : State) : Out := ldRR .l .l s

/-- `LD L, (HL)` (R98). -/
def execLd_l_mHL (s : State) : Out := loadR .l s.hl 8 s

/-- `LD L, A` (R96). -/
def execLd_l_a (s : State) : Out := ldRR .l .a s

/-- `LD (HL), B` (R99). -/
def execLd_mHL_b (s : State) : Out := store s.hl (s.getR .b) 8 s

/-- `LD (HL), C` (R99). -/
def execLd_mHL_c (s : State) : Out := store s.hl (s.getR .c) 8 s

/-- `LD (HL), D` (R99). -/
def execLd_mHL_d (s : State) : Out := store s.hl (s.getR .d) 8 s

/-- `LD (HL), E` (R99). -/
def execLd_mHL_e (s : State) : Out := store s.hl (s.getR .e) 8 s

/-- `LD (HL), H` (R99). -/
def execLd_mHL_h (s : State) : Out := store s.hl (s.getR .h) 8 s

/-- `LD (HL), L` (R99). -/
def execLd_mHL_l (s : State) : Out := store s.hl (s.getR .l) 8 s

/-- `LD (HL), A` (R99). -/
def execLd_mHL_a (s : State) : Out := store s.hl (s.getR .a) 8 s

/-- `LD A, B` (R96). -/
def execLd_a_b (s : State) : Out := ldRR .a .b s

/-- `LD A, C` (R96). -/
def execLd_a_c (s : State) : Out := ldRR .a .c s

/-- `LD A, D` (R96). -/
def execLd_a_d (s : State) : Out := ldRR .a .d s

/-- `LD A, E` (R96). -/
def execLd_a_e (s : State) : Out := ldRR .a .e s

/-- `LD A, H` (R96). -/
def execLd_a_h (s : State) : Out := ldRR .a .h s

/-- `LD A, L` (R96). -/
def execLd_a_l (s : State) : Out := ldRR .a .l s

/-- `LD A, (HL)` (R98). -/
def execLd_a_mHL (s : State) : Out := loadR .a s.hl 8 s

/-- `LD A, A` (R96). -/
def execLd_a_a (s : State) : Out := ldRR .a .a s

/-- `POP BC` (R119). -/
def execPop_bc (s : State) : Out := popPair .bc s

/-- `PUSH BC` (R118). -/
def execPush_bc (s : State) : Out := pushPair .bc s

/-- `POP DE` (R119). -/
def execPop_de (s : State) : Out := popPair .de s

/-- `PUSH DE` (R118). -/
def execPush_de (s : State) : Out := pushPair .de s

/-- `LDH (a8), A` (R108). -/
def execLdh_mA8_a (a : Byte) (s : State) : Out := store (highPage a) s.rA 12 s

/-- `POP HL` (R119). -/
def execPop_hl (s : State) : Out := popPair .hl s

/-- `LD (C), A` (R110). -/
def execLd_mC_a (s : State) : Out := store (highPage s.rC) s.rA 8 s

/-- `PUSH HL` (R118). -/
def execPush_hl (s : State) : Out := pushPair .hl s

/-- `LD (a16), A` (R106). -/
def execLd_mA16_a (a : Word) (s : State) : Out := store a s.rA 16 s

/-- `LDH A, (a8)` (R107). -/
def execLdh_a_mA8 (a : Byte) (s : State) : Out := loadR .a (highPage a) 12 s

/-- `POP AF` (R120). -/
def execPop_af (s : State) : Out := popPair .af s

/-- `LD A, (C)` (R109). -/
def execLd_a_mC (s : State) : Out := loadR .a (highPage s.rC) 8 s

/-- `PUSH AF` (R118). -/
def execPush_af (s : State) : Out := pushPair .af s

/-- `LD SP, HL` (R117). -/
def execLd_sp_hl (s : State) : Out := ldSpHL s

/-- `LD A, (a16)` (R105). -/
def execLd_a_mA16 (a : Word) (s : State) : Out := loadR .a a 16 s

end Sys2Proof.Machine
end

