-- ==== Sys2Proof/Machine/Rotate.lean ====
section
/-! DEFINITION. The accumulator rotates and the prefixed rotates and shifts (43_rotate_shift_bit.md R161-R181). -/

namespace Sys2Proof.Machine

/-! ## Shared shapes -/

/-- An accumulator rotate, which clears Z whatever the result (R161-R164). -/
def rotA (op : Rot) (s : State) : Out :=
  let o := op.run s.rA s.f.c
  .next ({ s with rA := o.1, f := { z := false, n := false, h := false, c := o.2 } }.charge 4)

/-- A prefixed rotate or shift of a register. -/
def rotR (op : Rot) (r : Reg8) (s : State) : Out :=
  let o := op.run (s.getR r) s.f.c
  .next (((s.setR r o.1).setF (rotFlags o.1 o.2)).charge 8)

/-- A prefixed rotate or shift of the byte at HL; the flags are written after the write (R165, 60_exceptions.md R208). -/
def rotM (op : Rot) (s : State) : Out :=
  andThen (read8 s.hl s) fun v =>
  let o := op.run v.1 s.f.c
  andThen (write8 s.hl o.1 v.2) fun s1 => .next ((s1.setF (rotFlags o.1 o.2)).charge 16)

/-! ## The instructions -/

/-- `RLCA` (R161). -/
def execRlca (s : State) : Out := rotA .rlc s

/-- `RRCA` (R162). -/
def execRrca (s : State) : Out := rotA .rrc s

/-- `RLA` (R163). -/
def execRla (s : State) : Out := rotA .rl s

/-- `RRA` (R164). -/
def execRra (s : State) : Out := rotA .rr s

/-- `RLC B` (R166). -/
def execRlc_b (s : State) : Out := rotR .rlc .b s

/-- `RLC C` (R166). -/
def execRlc_c (s : State) : Out := rotR .rlc .c s

/-- `RLC D` (R166). -/
def execRlc_d (s : State) : Out := rotR .rlc .d s

/-- `RLC E` (R166). -/
def execRlc_e (s : State) : Out := rotR .rlc .e s

/-- `RLC H` (R166). -/
def execRlc_h (s : State) : Out := rotR .rlc .h s

/-- `RLC L` (R166). -/
def execRlc_l (s : State) : Out := rotR .rlc .l s

/-- `RLC (HL)` (R167). -/
def execRlc_mHL (s : State) : Out := rotM .rlc s

/-- `RLC A` (R166). -/
def execRlc_a (s : State) : Out := rotR .rlc .a s

/-- `RRC B` (R168). -/
def execRrc_b (s : State) : Out := rotR .rrc .b s

/-- `RRC C` (R168). -/
def execRrc_c (s : State) : Out := rotR .rrc .c s

/-- `RRC D` (R168). -/
def execRrc_d (s : State) : Out := rotR .rrc .d s

/-- `RRC E` (R168). -/
def execRrc_e (s : State) : Out := rotR .rrc .e s

/-- `RRC H` (R168). -/
def execRrc_h (s : State) : Out := rotR .rrc .h s

/-- `RRC L` (R168). -/
def execRrc_l (s : State) : Out := rotR .rrc .l s

/-- `RRC (HL)` (R169). -/
def execRrc_mHL (s : State) : Out := rotM .rrc s

/-- `RRC A` (R168). -/
def execRrc_a (s : State) : Out := rotR .rrc .a s

/-- `RL B` (R170). -/
def execRl_b (s : State) : Out := rotR .rl .b s

/-- `RL C` (R170). -/
def execRl_c (s : State) : Out := rotR .rl .c s

/-- `RL D` (R170). -/
def execRl_d (s : State) : Out := rotR .rl .d s

/-- `RL E` (R170). -/
def execRl_e (s : State) : Out := rotR .rl .e s

/-- `RL H` (R170). -/
def execRl_h (s : State) : Out := rotR .rl .h s

/-- `RL L` (R170). -/
def execRl_l (s : State) : Out := rotR .rl .l s

/-- `RL (HL)` (R171). -/
def execRl_mHL (s : State) : Out := rotM .rl s

/-- `RL A` (R170). -/
def execRl_a (s : State) : Out := rotR .rl .a s

/-- `RR B` (R172). -/
def execRr_b (s : State) : Out := rotR .rr .b s

/-- `RR C` (R172). -/
def execRr_c (s : State) : Out := rotR .rr .c s

/-- `RR D` (R172). -/
def execRr_d (s : State) : Out := rotR .rr .d s

/-- `RR E` (R172). -/
def execRr_e (s : State) : Out := rotR .rr .e s

/-- `RR H` (R172). -/
def execRr_h (s : State) : Out := rotR .rr .h s

/-- `RR L` (R172). -/
def execRr_l (s : State) : Out := rotR .rr .l s

/-- `RR (HL)` (R173). -/
def execRr_mHL (s : State) : Out := rotM .rr s

/-- `RR A` (R172). -/
def execRr_a (s : State) : Out := rotR .rr .a s

/-- `SLA B` (R174). -/
def execSla_b (s : State) : Out := rotR .sla .b s

/-- `SLA C` (R174). -/
def execSla_c (s : State) : Out := rotR .sla .c s

/-- `SLA D` (R174). -/
def execSla_d (s : State) : Out := rotR .sla .d s

/-- `SLA E` (R174). -/
def execSla_e (s : State) : Out := rotR .sla .e s

/-- `SLA H` (R174). -/
def execSla_h (s : State) : Out := rotR .sla .h s

/-- `SLA L` (R174). -/
def execSla_l (s : State) : Out := rotR .sla .l s

/-- `SLA (HL)` (R175). -/
def execSla_mHL (s : State) : Out := rotM .sla s

/-- `SLA A` (R174). -/
def execSla_a (s : State) : Out := rotR .sla .a s

/-- `SRA B` (R176). -/
def execSra_b (s : State) : Out := rotR .sra .b s

/-- `SRA C` (R176). -/
def execSra_c (s : State) : Out := rotR .sra .c s

/-- `SRA D` (R176). -/
def execSra_d (s : State) : Out := rotR .sra .d s

/-- `SRA E` (R176). -/
def execSra_e (s : State) : Out := rotR .sra .e s

/-- `SRA H` (R176). -/
def execSra_h (s : State) : Out := rotR .sra .h s

/-- `SRA L` (R176). -/
def execSra_l (s : State) : Out := rotR .sra .l s

/-- `SRA (HL)` (R177). -/
def execSra_mHL (s : State) : Out := rotM .sra s

/-- `SRA A` (R176). -/
def execSra_a (s : State) : Out := rotR .sra .a s

/-- `SWAP B` (R178). -/
def execSwap_b (s : State) : Out := rotR .swap .b s

/-- `SWAP C` (R178). -/
def execSwap_c (s : State) : Out := rotR .swap .c s

/-- `SWAP D` (R178). -/
def execSwap_d (s : State) : Out := rotR .swap .d s

/-- `SWAP E` (R178). -/
def execSwap_e (s : State) : Out := rotR .swap .e s

/-- `SWAP H` (R178). -/
def execSwap_h (s : State) : Out := rotR .swap .h s

/-- `SWAP L` (R178). -/
def execSwap_l (s : State) : Out := rotR .swap .l s

/-- `SWAP (HL)` (R179). -/
def execSwap_mHL (s : State) : Out := rotM .swap s

/-- `SWAP A` (R178). -/
def execSwap_a (s : State) : Out := rotR .swap .a s

/-- `SRL B` (R180). -/
def execSrl_b (s : State) : Out := rotR .srl .b s

/-- `SRL C` (R180). -/
def execSrl_c (s : State) : Out := rotR .srl .c s

/-- `SRL D` (R180). -/
def execSrl_d (s : State) : Out := rotR .srl .d s

/-- `SRL E` (R180). -/
def execSrl_e (s : State) : Out := rotR .srl .e s

/-- `SRL H` (R180). -/
def execSrl_h (s : State) : Out := rotR .srl .h s

/-- `SRL L` (R180). -/
def execSrl_l (s : State) : Out := rotR .srl .l s

/-- `SRL (HL)` (R181). -/
def execSrl_mHL (s : State) : Out := rotM .srl s

/-- `SRL A` (R180). -/
def execSrl_a (s : State) : Out := rotR .srl .a s

end Sys2Proof.Machine
end

