-- ==== Sys2Proof/Machine/Prefix.lean ====
section
/-! DEFINITION. The row of the prefix marker: its next byte is the real opcode (45_system.md R204), read by its fields
x, y and z (30_encoding.md R67, R73). The decoder never yields this row alone (log entry 13). -/

namespace Sys2Proof.Machine

/-! ## Shared shapes -/

/-- A rotate or shift of an operand. -/
def rotOperand (op : Rot) (o : Operand8) (s : State) : Out :=
  match o with
  | .reg r => rotR op r s
  | .atHL => rotM op s

/-- `BIT b` of an operand. -/
def testOperand (b : Fin 8) (o : Operand8) (s : State) : Out :=
  match o with
  | .reg r => testBitR b r s
  | .atHL => testBitM b s

/-- `RES b` of an operand. -/
def resetOperand (b : Fin 8) (o : Operand8) (s : State) : Out :=
  match o with
  | .reg r => resetBitR b r s
  | .atHL => resetBitM b s

/-- `SET b` of an operand. -/
def setOperand (b : Fin 8) (o : Operand8) (s : State) : Out :=
  match o with
  | .reg r => setBitR b r s
  | .atHL => setBitM b s

/-- The prefixed instruction of an opcode byte, by its fields (30_encoding.md R73). -/
def runPrefixed (op2 : Byte) (s : State) : Out :=
  let x := op2.extractLsb' 6 2
  let y := op2.extractLsb' 3 3
  let o := Operand8.ofCode (op2.extractLsb' 0 3)
  match x.toNat with
  | 0 => rotOperand (Rot.ofCode y) o s
  | 1 => testOperand y.toFin o s
  | 2 => resetOperand y.toFin o s
  | _ => setOperand y.toFin o s

/-! ## The instructions -/

/-- `PREFIX` (R204). -/
def execPrefixCB (op2 : Byte) (s : State) : Out := runPrefixed op2 s

end Sys2Proof.Machine
end

