-- ==== Sys2Proof/Machine/System.lean ====
section
/-! DEFINITION. The instructions on the engine's own state (45_system.md). -/

namespace Sys2Proof.Machine

/-! ## Shared shapes -/

/-- No effect beyond the advance and the cost (R199, R201). -/
def idle (cost : Nat) (s : State) : Out := .next (s.charge cost)

/-- HALT: `mode <- Halted` (R200). -/
def enterHalt (s : State) : Out := .next ({ s with mode := .halted }.charge 4)

/-- STOP by `P_STOP_MODE`; under Refuse the step is refused with `pc0`, and `pc` stays `pc_next` (R201). -/
def stop (s : State) : Out :=
  match s.config.stopMode with
  | .nop => idle 4 s
  | .refuse => .refused (.stop (s.pc - 2#16) s.markFaulted)

/-- DI (R202). -/
def disable (s : State) : Out := .next (s.disableInterrupts.charge 4)

/-- EI by `P_EI_DELAYED` (R203). -/
def enable (s : State) : Out :=
  if s.config.eiDelayed then .next ({ s with imeScheduled := true }.charge 4)
  else .next ({ s with ime := true }.charge 4)

/-! ## The instructions -/

/-- `NOP` (R199). -/
def execNop (s : State) : Out := idle 4 s

/-- `STOP n8` (R201). -/
def execStop_n8 (_n : Byte) (s : State) : Out := stop s

/-- `HALT` (R200). -/
def execHalt (s : State) : Out := enterHalt s

/-- `DI` (R202). -/
def execDi (s : State) : Out := disable s

/-- `EI` (R203). -/
def execEi (s : State) : Out := enable s

end Sys2Proof.Machine
end

