-- ==== Sys2Proof/Machine/Fetch.lean ====
section
/-! DEFINITION. Fetching and decoding the instruction at `pc`, through the MMU (30_encoding.md R91-R93). -/

namespace Sys2Proof.Machine

/-- The `n` bytes from `a` on, read in increasing address, the addresses wrapping (30_encoding.md R91). -/
def readBytes (n : Nat) (a : Word) (s : State) : OutVal (List Byte) :=
  match n with
  | 0 => .next ([], s)
  | n + 1 =>
    andThen (read8 a s) fun b =>
    andThen (readBytes n (a + 1#16) b.2) fun rest =>
    .next (b.1 :: rest.1, rest.2)

/-- `pc <- pc0 + len` (30_encoding.md R93). -/
def State.advance (s : State) (len : Nat) : State := { s with pc := s.pc + BitVec.ofNat 16 len }

/-- The fault a decode error raises: the table has no entry for the byte (60_exceptions.md R206). -/
def raiseDecodeError {α : Type} (pc0 : Word) (b0 : Byte) (e : DecodeError) (s : State) :
    Host.Outcome α Fault Refusal :=
  match e with
  | .undefinedOpcode prefixed b => raiseDecodeFailure pc0 prefixed b s
  | .truncated => raiseDecodeFailure pc0 false b0 s

/-- Fetch, decode and advance: the instruction, and the state with `pc = pc_next`. The first byte gives the length
(30_encoding.md R82); an undefined one raises before any other read, and `pc` stays `pc0` (R92). -/
def fetch (s : State) : OutVal Instr :=
  andThen (read8 s.pc s) fun b0 =>
  match lengthFromByte b0.1 with
  | none => raiseDecodeFailure s.pc false b0.1 b0.2
  | some len =>
    andThen (readBytes (len - 1) (s.pc + 1#16) b0.2) fun rest =>
    match decode (b0.1 :: rest.1) with
    | .ok (i, _) => .next (i, rest.2.advance len)
    | .error e => raiseDecodeError s.pc b0.1 e rest.2

/-- Bytes put into the backing array from `a` on, from outside the machine. -/
def State.pokeBytes (s : State) (a : Word) (bytes : List Byte) : State :=
  match bytes with
  | [] => s
  | b :: rest => State.pokeBytes (s.poke a b) (a + 1#16) rest

/-- The engine ready to fetch: Running, and no fault recorded. -/
def State.readyToFetch (s : State) : State := { s with mode := .running, faulted := false }

end Sys2Proof.Machine
end

