-- ==== Sys2Proof/Machine/Peripheral.lean ====
section
/-! DEFINITION. The peripheral phase that follows a CPU step (60_exceptions.md R235-R237). The devices' behaviour is free
(Config); with no device the phase is the identity. -/

namespace Sys2Proof.Machine

/-- One action of a device's `Step`, with the byte it read or 0x00: a request, or a bus access (R236). DESIGN CHOICE
(log entry 16): a write at 0xFF0F or 0xFFFF reaches IF or IE as the CPU's does, although peripherals set IF bits only
through `Request` (10_state.md R29, R213). -/
def runAction (act : StepAction) (s : State) : OutVal Byte :=
  match act with
  | .request l => .next (0x00#8, s.request l)
  | .read a => read8 a s
  | .write a v => andThen (write8 a v s) fun s1 => .next (0x00#8, s1)

/-- The device at place `i` takes its next `n` actions. -/
def runActions (n i : Nat) (s : State) : Out :=
  match n with
  | 0 => .next s
  | n + 1 =>
    match s.devices[i]? with
    | none => .next s
    | some d =>
      andThen (runAction (Config.deviceStepAction i d.st) s) fun r =>
      match r.2.devices[i]? with
      | none => .next r.2
      | some d' => runActions n i (r.2.setDeviceState i (Config.deviceStepResume i d'.st r.1))

/-- `d.Step(cycles, interrupt controller)` of the device at place `i` (R236). -/
def stepDevice (cycles i : Nat) (s : State) : Out :=
  match s.devices[i]? with
  | none => .next s
  | some d =>
    let start := Config.deviceStepBegin i d.st cycles
    runActions start.1 i (s.setDeviceState i start.2)

/-- The kinds that have a `Step`, in the order they are stepped (R235). -/
def steppedKinds : List DeviceKind := [.cartridge, .dma, .pixelPipeline, .timer, .serial]

/-- The places of the devices that are stepped, in order (R235). -/
def State.stepOrder (s : State) : List Nat :=
  steppedKinds.flatMap fun k =>
    (List.range s.devices.length).filter fun i => decide ((s.devices[i]?).map Device.kind = some k)

/-- The devices at the places given, stepped in order with the same cycle count. -/
def stepDevices (places : List Nat) (cycles : Nat) (s : State) : Out :=
  match places with
  | [] => .next s
  | i :: rest => andThen (stepDevice cycles i s) fun s1 => stepDevices rest cycles s1

/-- The peripheral phase: every device is advanced by the count the CPU step returned (R235, R236). -/
def peripheralPhase (s : State) : Out := stepDevices s.stepOrder s.cycles s

end Sys2Proof.Machine
end

