-- ==== Sys2Proof/Machine/Step.lean ====
section
/-! DEFINITION. One step of the block (30_encoding.md R88), and the peripheral phase after it (60_exceptions.md R235). -/

namespace Sys2Proof.Machine

/-- `FetchDecodeExecute()` (30_encoding.md R88, R91-R95). -/
def fetchDecodeExecute (s : State) : Out := andThen (fetch s) fun r => exec r.1 r.2

/-- The instruction of a Running step, or the idle of a Halted one (30_encoding.md R88, R90). -/
def instructionPhase (s : State) : Out :=
  match s.mode with
  | .halted => .next (s.charge s.config.haltIdleCycles)
  | .running => fetchDecodeExecute s

/-- `CPU.Step()`: promotion of EI, instruction phase, poll (30_encoding.md R88). -/
def cpuStep (s : State) : Out := andThen (instructionPhase s.promoteEI) pollInterrupts

/-- The host's `Step()` (60_exceptions.md R238): one CPU step, then the peripheral phase. It is defined only when
`faulted = 0` (30_encoding.md R88). -/
def step (s : State) : Host.Outcome State Fault Refusal :=
  if s.faulted then .fault (.stuckAfterFault s) else andThen (cpuStep s) peripheralPhase

/-- The instruction with the table bits `w` stored where the next step fetches, and the engine ready to fetch it
(log entries 14, 15). -/
def State.withFetchWord (s : State) (nbits w : Nat) : State :=
  (s.pokeBytes s.pc (tableBytes nbits w)).readyToFetch

end Sys2Proof.Machine
end

