-- ==== Sys2Proof/Machine/Families.lean ====
section
/-! DEFINITION. The families of instructions that one rule of the spec describes, as functions of the fields the rule
names: what a statement about a whole family is written with. No meaning uses them. -/

namespace Sys2Proof

open Machine

/-- `LD r8, r8'` (40_load.md R96). -/
def Instr.ldRR : Reg8 → Reg8 → Instr
  | .b, .b => .ld_b_b
  | .b, .c => .ld_b_c
  | .b, .d => .ld_b_d
  | .b, .e => .ld_b_e
  | .b, .h => .ld_b_h
  | .b, .l => .ld_b_l
  | .b, .a => .ld_b_a
  | .c, .b => .ld_c_b
  | .c, .c => .ld_c_c
  | .c, .d => .ld_c_d
  | .c, .e => .ld_c_e
  | .c, .h => .ld_c_h
  | .c, .l => .ld_c_l
  | .c, .a => .ld_c_a
  | .d, .b => .ld_d_b
  | .d, .c => .ld_d_c
  | .d, .d => .ld_d_d
  | .d, .e => .ld_d_e
  | .d, .h => .ld_d_h
  | .d, .l => .ld_d_l
  | .d, .a => .ld_d_a
  | .e, .b => .ld_e_b
  | .e, .c => .ld_e_c
  | .e, .d => .ld_e_d
  | .e, .e => .ld_e_e
  | .e, .h => .ld_e_h
  | .e, .l => .ld_e_l
  | .e, .a => .ld_e_a
  | .h, .b => .ld_h_b
  | .h, .c => .ld_h_c
  | .h, .d => .ld_h_d
  | .h, .e => .ld_h_e
  | .h, .h => .ld_h_h
  | .h, .l => .ld_h_l
  | .h, .a => .ld_h_a
  | .l, .b => .ld_l_b
  | .l, .c => .ld_l_c
  | .l, .d => .ld_l_d
  | .l, .e => .ld_l_e
  | .l, .h => .ld_l_h
  | .l, .l => .ld_l_l
  | .l, .a => .ld_l_a
  | .a, .b => .ld_a_b
  | .a, .c => .ld_a_c
  | .a, .d => .ld_a_d
  | .a, .e => .ld_a_e
  | .a, .h => .ld_a_h
  | .a, .l => .ld_a_l
  | .a, .a => .ld_a_a

/-- `LD r8, n8` (40_load.md R97). -/
def Instr.ldRN : Reg8 → Byte → Instr
  | .b => .ld_b_n8
  | .c => .ld_c_n8
  | .d => .ld_d_n8
  | .e => .ld_e_n8
  | .h => .ld_h_n8
  | .l => .ld_l_n8
  | .a => .ld_a_n8

/-- `LD r8, (HL)` (40_load.md R98). -/
def Instr.ldRM : Reg8 → Instr
  | .b => .ld_b_mHL
  | .c => .ld_c_mHL
  | .d => .ld_d_mHL
  | .e => .ld_e_mHL
  | .h => .ld_h_mHL
  | .l => .ld_l_mHL
  | .a => .ld_a_mHL

/-- `LD (HL), r8` (40_load.md R99). -/
def Instr.ldMR : Reg8 → Instr
  | .b => .ld_mHL_b
  | .c => .ld_mHL_c
  | .d => .ld_mHL_d
  | .e => .ld_mHL_e
  | .h => .ld_mHL_h
  | .l => .ld_mHL_l
  | .a => .ld_mHL_a

/-- `LD rr, n16` (40_load.md R115). -/
def Instr.ldPairN : Pair → Word → Instr
  | .bc => .ld_bc_n16
  | .de => .ld_de_n16
  | .hl => .ld_hl_n16
  | .sp => .ld_sp_n16

/-- `PUSH rr` (40_load.md R118). -/
def Instr.push : StackPair → Instr
  | .bc => .push_bc
  | .de => .push_de
  | .hl => .push_hl
  | .af => .push_af

/-- `POP rr` (40_load.md R119, R120). -/
def Instr.pop : StackPair → Instr
  | .bc => .pop_bc
  | .de => .pop_de
  | .hl => .pop_hl
  | .af => .pop_af

/-- The accumulator operations on a register (41_alu8.md R123, R126, R129, R132, R135, R138, R141, R144). -/
def Instr.aluR : Alu → Reg8 → Instr
  | .add, .b => .add_a_b
  | .add, .c => .add_a_c
  | .add, .d => .add_a_d
  | .add, .e => .add_a_e
  | .add, .h => .add_a_h
  | .add, .l => .add_a_l
  | .add, .a => .add_a_a
  | .adc, .b => .adc_a_b
  | .adc, .c => .adc_a_c
  | .adc, .d => .adc_a_d
  | .adc, .e => .adc_a_e
  | .adc, .h => .adc_a_h
  | .adc, .l => .adc_a_l
  | .adc, .a => .adc_a_a
  | .sub, .b => .sub_a_b
  | .sub, .c => .sub_a_c
  | .sub, .d => .sub_a_d
  | .sub, .e => .sub_a_e
  | .sub, .h => .sub_a_h
  | .sub, .l => .sub_a_l
  | .sub, .a => .sub_a_a
  | .sbc, .b => .sbc_a_b
  | .sbc, .c => .sbc_a_c
  | .sbc, .d => .sbc_a_d
  | .sbc, .e => .sbc_a_e
  | .sbc, .h => .sbc_a_h
  | .sbc, .l => .sbc_a_l
  | .sbc, .a => .sbc_a_a
  | .and, .b => .and_a_b
  | .and, .c => .and_a_c
  | .and, .d => .and_a_d
  | .and, .e => .and_a_e
  | .and, .h => .and_a_h
  | .and, .l => .and_a_l
  | .and, .a => .and_a_a
  | .xor, .b => .xor_a_b
  | .xor, .c => .xor_a_c
  | .xor, .d => .xor_a_d
  | .xor, .e => .xor_a_e
  | .xor, .h => .xor_a_h
  | .xor, .l => .xor_a_l
  | .xor, .a => .xor_a_a
  | .or, .b => .or_a_b
  | .or, .c => .or_a_c
  | .or, .d => .or_a_d
  | .or, .e => .or_a_e
  | .or, .h => .or_a_h
  | .or, .l => .or_a_l
  | .or, .a => .or_a_a
  | .cp, .b => .cp_a_b
  | .cp, .c => .cp_a_c
  | .cp, .d => .cp_a_d
  | .cp, .e => .cp_a_e
  | .cp, .h => .cp_a_h
  | .cp, .l => .cp_a_l
  | .cp, .a => .cp_a_a

/-- The accumulator operations on `(HL)` (41_alu8.md R124, R127, R130, R133, R136, R139, R142, R145). -/
def Instr.aluM : Alu → Instr
  | .add => .add_a_mHL
  | .adc => .adc_a_mHL
  | .sub => .sub_a_mHL
  | .sbc => .sbc_a_mHL
  | .and => .and_a_mHL
  | .xor => .xor_a_mHL
  | .or => .or_a_mHL
  | .cp => .cp_a_mHL

/-- The accumulator operations on `n8` (41_alu8.md R125, R128, R131, R134, R137, R140, R143, R146). -/
def Instr.aluN : Alu → Byte → Instr
  | .add => .add_a_n8
  | .adc => .adc_a_n8
  | .sub => .sub_a_n8
  | .sbc => .sbc_a_n8
  | .and => .and_a_n8
  | .xor => .xor_a_n8
  | .or => .or_a_n8
  | .cp => .cp_a_n8

/-- `INC r8` (41_alu8.md R147). -/
def Instr.incR : Reg8 → Instr
  | .b => .inc_b
  | .c => .inc_c
  | .d => .inc_d
  | .e => .inc_e
  | .h => .inc_h
  | .l => .inc_l
  | .a => .inc_a

/-- `DEC r8` (41_alu8.md R149). -/
def Instr.decR : Reg8 → Instr
  | .b => .dec_b
  | .c => .dec_c
  | .d => .dec_d
  | .e => .dec_e
  | .h => .dec_h
  | .l => .dec_l
  | .a => .dec_a

/-- `ADD HL, rr` (42_alu16.md R156). -/
def Instr.addHL : Pair → Instr
  | .bc => .add_hl_bc
  | .de => .add_hl_de
  | .hl => .add_hl_hl
  | .sp => .add_hl_sp

/-- `INC rr` (42_alu16.md R157). -/
def Instr.incPair : Pair → Instr
  | .bc => .inc_bc
  | .de => .inc_de
  | .hl => .inc_hl
  | .sp => .inc_sp

/-- `DEC rr` (42_alu16.md R158). -/
def Instr.decPair : Pair → Instr
  | .bc => .dec_bc
  | .de => .dec_de
  | .hl => .dec_hl
  | .sp => .dec_sp

/-- The prefixed rotates and shifts of a register (43_rotate_shift_bit.md R166-R180). -/
def Instr.rotR : Rot → Reg8 → Instr
  | .rlc, .b => .rlc_b
  | .rlc, .c => .rlc_c
  | .rlc, .d => .rlc_d
  | .rlc, .e => .rlc_e
  | .rlc, .h => .rlc_h
  | .rlc, .l => .rlc_l
  | .rlc, .a => .rlc_a
  | .rrc, .b => .rrc_b
  | .rrc, .c => .rrc_c
  | .rrc, .d => .rrc_d
  | .rrc, .e => .rrc_e
  | .rrc, .h => .rrc_h
  | .rrc, .l => .rrc_l
  | .rrc, .a => .rrc_a
  | .rl, .b => .rl_b
  | .rl, .c => .rl_c
  | .rl, .d => .rl_d
  | .rl, .e => .rl_e
  | .rl, .h => .rl_h
  | .rl, .l => .rl_l
  | .rl, .a => .rl_a
  | .rr, .b => .rr_b
  | .rr, .c => .rr_c
  | .rr, .d => .rr_d
  | .rr, .e => .rr_e
  | .rr, .h => .rr_h
  | .rr, .l => .rr_l
  | .rr, .a => .rr_a
  | .sla, .b => .sla_b
  | .sla, .c => .sla_c
  | .sla, .d => .sla_d
  | .sla, .e => .sla_e
  | .sla, .h => .sla_h
  | .sla, .l => .sla_l
  | .sla, .a => .sla_a
  | .sra, .b => .sra_b
  | .sra, .c => .sra_c
  | .sra, .d => .sra_d
  | .sra, .e => .sra_e
  | .sra, .h => .sra_h
  | .sra, .l => .sra_l
  | .sra, .a => .sra_a
  | .swap, .b => .swap_b
  | .swap, .c => .swap_c
  | .swap, .d => .swap_d
  | .swap, .e => .swap_e
  | .swap, .h => .swap_h
  | .swap, .l => .swap_l
  | .swap, .a => .swap_a
  | .srl, .b => .srl_b
  | .srl, .c => .srl_c
  | .srl, .d => .srl_d
  | .srl, .e => .srl_e
  | .srl, .h => .srl_h
  | .srl, .l => .srl_l
  | .srl, .a => .srl_a

/-- The prefixed rotates and shifts of `(HL)` (43_rotate_shift_bit.md R167-R181). -/
def Instr.rotM : Rot → Instr
  | .rlc => .rlc_mHL
  | .rrc => .rrc_mHL
  | .rl => .rl_mHL
  | .rr => .rr_mHL
  | .sla => .sla_mHL
  | .sra => .sra_mHL
  | .swap => .swap_mHL
  | .srl => .srl_mHL

/-- `BIT u3, r8` (43_rotate_shift_bit.md R182). -/
def Instr.bitR : Fin 8 → Reg8 → Instr
  | 0, .b => .bit_0_b
  | 0, .c => .bit_0_c
  | 0, .d => .bit_0_d
  | 0, .e => .bit_0_e
  | 0, .h => .bit_0_h
  | 0, .l => .bit_0_l
  | 0, .a => .bit_0_a
  | 1, .b => .bit_1_b
  | 1, .c => .bit_1_c
  | 1, .d => .bit_1_d
  | 1, .e => .bit_1_e
  | 1, .h => .bit_1_h
  | 1, .l => .bit_1_l
  | 1, .a => .bit_1_a
  | 2, .b => .bit_2_b
  | 2, .c => .bit_2_c
  | 2, .d => .bit_2_d
  | 2, .e => .bit_2_e
  | 2, .h => .bit_2_h
  | 2, .l => .bit_2_l
  | 2, .a => .bit_2_a
  | 3, .b => .bit_3_b
  | 3, .c => .bit_3_c
  | 3, .d => .bit_3_d
  | 3, .e => .bit_3_e
  | 3, .h => .bit_3_h
  | 3, .l => .bit_3_l
  | 3, .a => .bit_3_a
  | 4, .b => .bit_4_b
  | 4, .c => .bit_4_c
  | 4, .d => .bit_4_d
  | 4, .e => .bit_4_e
  | 4, .h => .bit_4_h
  | 4, .l => .bit_4_l
  | 4, .a => .bit_4_a
  | 5, .b => .bit_5_b
  | 5, .c => .bit_5_c
  | 5, .d => .bit_5_d
  | 5, .e => .bit_5_e
  | 5, .h => .bit_5_h
  | 5, .l => .bit_5_l
  | 5, .a => .bit_5_a
  | 6, .b => .bit_6_b
  | 6, .c => .bit_6_c
  | 6, .d => .bit_6_d
  | 6, .e => .bit_6_e
  | 6, .h => .bit_6_h
  | 6, .l => .bit_6_l
  | 6, .a => .bit_6_a
  | 7, .b => .bit_7_b
  | 7, .c => .bit_7_c
  | 7, .d => .bit_7_d
  | 7, .e => .bit_7_e
  | 7, .h => .bit_7_h
  | 7, .l => .bit_7_l
  | 7, .a => .bit_7_a

/-- `BIT u3, (HL)` (43_rotate_shift_bit.md R183). -/
def Instr.bitM : Fin 8 → Instr
  | 0 => .bit_0_mHL
  | 1 => .bit_1_mHL
  | 2 => .bit_2_mHL
  | 3 => .bit_3_mHL
  | 4 => .bit_4_mHL
  | 5 => .bit_5_mHL
  | 6 => .bit_6_mHL
  | 7 => .bit_7_mHL

/-- `RES u3, r8` (43_rotate_shift_bit.md R184). -/
def Instr.resR : Fin 8 → Reg8 → Instr
  | 0, .b => .res_0_b
  | 0, .c => .res_0_c
  | 0, .d => .res_0_d
  | 0, .e => .res_0_e
  | 0, .h => .res_0_h
  | 0, .l => .res_0_l
  | 0, .a => .res_0_a
  | 1, .b => .res_1_b
  | 1, .c => .res_1_c
  | 1, .d => .res_1_d
  | 1, .e => .res_1_e
  | 1, .h => .res_1_h
  | 1, .l => .res_1_l
  | 1, .a => .res_1_a
  | 2, .b => .res_2_b
  | 2, .c => .res_2_c
  | 2, .d => .res_2_d
  | 2, .e => .res_2_e
  | 2, .h => .res_2_h
  | 2, .l => .res_2_l
  | 2, .a => .res_2_a
  | 3, .b => .res_3_b
  | 3, .c => .res_3_c
  | 3, .d => .res_3_d
  | 3, .e => .res_3_e
  | 3, .h => .res_3_h
  | 3, .l => .res_3_l
  | 3, .a => .res_3_a
  | 4, .b => .res_4_b
  | 4, .c => .res_4_c
  | 4, .d => .res_4_d
  | 4, .e => .res_4_e
  | 4, .h => .res_4_h
  | 4, .l => .res_4_l
  | 4, .a => .res_4_a
  | 5, .b => .res_5_b
  | 5, .c => .res_5_c
  | 5, .d => .res_5_d
  | 5, .e => .res_5_e
  | 5, .h => .res_5_h
  | 5, .l => .res_5_l
  | 5, .a => .res_5_a
  | 6, .b => .res_6_b
  | 6, .c => .res_6_c
  | 6, .d => .res_6_d
  | 6, .e => .res_6_e
  | 6, .h => .res_6_h
  | 6, .l => .res_6_l
  | 6, .a => .res_6_a
  | 7, .b => .res_7_b
  | 7, .c => .res_7_c
  | 7, .d => .res_7_d
  | 7, .e => .res_7_e
  | 7, .h => .res_7_h
  | 7, .l => .res_7_l
  | 7, .a => .res_7_a

/-- `RES u3, (HL)` (43_rotate_shift_bit.md R185). -/
def Instr.resM : Fin 8 → Instr
  | 0 => .res_0_mHL
  | 1 => .res_1_mHL
  | 2 => .res_2_mHL
  | 3 => .res_3_mHL
  | 4 => .res_4_mHL
  | 5 => .res_5_mHL
  | 6 => .res_6_mHL
  | 7 => .res_7_mHL

/-- `SET u3, r8` (43_rotate_shift_bit.md R186). -/
def Instr.setR : Fin 8 → Reg8 → Instr
  | 0, .b => .set_0_b
  | 0, .c => .set_0_c
  | 0, .d => .set_0_d
  | 0, .e => .set_0_e
  | 0, .h => .set_0_h
  | 0, .l => .set_0_l
  | 0, .a => .set_0_a
  | 1, .b => .set_1_b
  | 1, .c => .set_1_c
  | 1, .d => .set_1_d
  | 1, .e => .set_1_e
  | 1, .h => .set_1_h
  | 1, .l => .set_1_l
  | 1, .a => .set_1_a
  | 2, .b => .set_2_b
  | 2, .c => .set_2_c
  | 2, .d => .set_2_d
  | 2, .e => .set_2_e
  | 2, .h => .set_2_h
  | 2, .l => .set_2_l
  | 2, .a => .set_2_a
  | 3, .b => .set_3_b
  | 3, .c => .set_3_c
  | 3, .d => .set_3_d
  | 3, .e => .set_3_e
  | 3, .h => .set_3_h
  | 3, .l => .set_3_l
  | 3, .a => .set_3_a
  | 4, .b => .set_4_b
  | 4, .c => .set_4_c
  | 4, .d => .set_4_d
  | 4, .e => .set_4_e
  | 4, .h => .set_4_h
  | 4, .l => .set_4_l
  | 4, .a => .set_4_a
  | 5, .b => .set_5_b
  | 5, .c => .set_5_c
  | 5, .d => .set_5_d
  | 5, .e => .set_5_e
  | 5, .h => .set_5_h
  | 5, .l => .set_5_l
  | 5, .a => .set_5_a
  | 6, .b => .set_6_b
  | 6, .c => .set_6_c
  | 6, .d => .set_6_d
  | 6, .e => .set_6_e
  | 6, .h => .set_6_h
  | 6, .l => .set_6_l
  | 6, .a => .set_6_a
  | 7, .b => .set_7_b
  | 7, .c => .set_7_c
  | 7, .d => .set_7_d
  | 7, .e => .set_7_e
  | 7, .h => .set_7_h
  | 7, .l => .set_7_l
  | 7, .a => .set_7_a

/-- `SET u3, (HL)` (43_rotate_shift_bit.md R187). -/
def Instr.setM : Fin 8 → Instr
  | 0 => .set_0_mHL
  | 1 => .set_1_mHL
  | 2 => .set_2_mHL
  | 3 => .set_3_mHL
  | 4 => .set_4_mHL
  | 5 => .set_5_mHL
  | 6 => .set_6_mHL
  | 7 => .set_7_mHL

/-- `JP cc, a16` (44_control.md R189). -/
def Instr.jpIf : Cond → Word → Instr
  | .nz => .jp_nz_a16
  | .z => .jp_z_a16
  | .nc => .jp_nc_a16
  | .c => .jp_c_a16

/-- `JR cc, e8` (44_control.md R192). -/
def Instr.jrIf : Cond → Byte → Instr
  | .nz => .jr_nz_e8
  | .z => .jr_z_e8
  | .nc => .jr_nc_e8
  | .c => .jr_c_e8

/-- `CALL cc, a16` (44_control.md R194). -/
def Instr.callIf : Cond → Word → Instr
  | .nz => .call_nz_a16
  | .z => .call_z_a16
  | .nc => .call_nc_a16
  | .c => .call_c_a16

/-- `RET cc` (44_control.md R196). -/
def Instr.retIf : Cond → Instr
  | .nz => .ret_nz
  | .z => .ret_z
  | .nc => .ret_nc
  | .c => .ret_c

/-- `RST t`, t = 8 · y (44_control.md R198). -/
def Instr.rst : Fin 8 → Instr
  | 0 => .rst_00
  | 1 => .rst_08
  | 2 => .rst_10
  | 3 => .rst_18
  | 4 => .rst_20
  | 5 => .rst_28
  | 6 => .rst_30
  | 7 => .rst_38

/-- A rotate or shift of an operand (30_encoding.md R73). -/
def Instr.rotOf (op : Rot) (o : Operand8) : Instr :=
  match o with
  | .reg r => .rotR op r
  | .atHL => .rotM op

/-- `BIT b` of an operand. -/
def Instr.bitOf (b : Fin 8) (o : Operand8) : Instr :=
  match o with
  | .reg r => .bitR b r
  | .atHL => .bitM b

/-- `RES b` of an operand. -/
def Instr.resOf (b : Fin 8) (o : Operand8) : Instr :=
  match o with
  | .reg r => .resR b r
  | .atHL => .resM b

/-- `SET b` of an operand. -/
def Instr.setOf (b : Fin 8) (o : Operand8) : Instr :=
  match o with
  | .reg r => .setR b r
  | .atHL => .setM b

/-- The prefixed instruction of an opcode byte, by its fields x, y and z (30_encoding.md R73). -/
def Instr.prefixed (op2 : Byte) : Instr :=
  match (op2.extractLsb' 6 2).toNat with
  | 0 => .rotOf (Rot.ofCode (op2.extractLsb' 3 3)) (Operand8.ofCode (op2.extractLsb' 0 3))
  | 1 => .bitOf (op2.extractLsb' 3 3).toFin (Operand8.ofCode (op2.extractLsb' 0 3))
  | 2 => .resOf (op2.extractLsb' 3 3).toFin (Operand8.ofCode (op2.extractLsb' 0 3))
  | _ => .setOf (op2.extractLsb' 3 3).toFin (Operand8.ofCode (op2.extractLsb' 0 3))

end Sys2Proof
end

