-- ==== Sys2Proof/Machine/HostOps.lean ====
section
/-! DEFINITION. What the host does to the block between two steps (60_exceptions.md R238): construction, and the moves of
`hostMove`, of which all but reset and stop end with a fault or a refusal. -/

namespace Sys2Proof.Machine

/-- Why a construction or a registration is refused (60_exceptions.md R209). -/
inductive ConstructionError where
  /-- the CGB double-speed feature, which is outside the block (00_scope.md R4) -/
  | unsupportedFeature
  /-- a region with `start > end` (20_memory.md R41) -/
  | badRegion (first last : Word)
deriving DecidableEq, Repr

/-- `AddHandler(region, handler)`: the handle, and the state with the registration at the end (20_memory.md R41). -/
def addHandler (first last : Word) (h : Handler) (s : State) : Except ConstructionError (Nat × State) :=
  if first.toNat ≤ last.toNat then
    .ok (s.nextHandle,
      { s with
        registry := s.registry ++ [{ handle := s.nextHandle, first := first, last := last, handler := h }]
        nextHandle := s.nextHandle + 1 })
  else .error (.badRegion first last)

/-- `RemoveHandler(handle)`: no-op if the handle is unknown (20_memory.md R42). -/
def removeHandler (handle : Nat) (s : State) : State :=
  { s with registry := s.registry.filter fun r => decide (r.handle ≠ handle) }

/-- `Reset()` (70_reset_and_hazards.md R241): memory, registry, devices and parameters are unchanged. -/
def resetConsole (s : State) : State :=
  { s with
    rA := 0x00#8, f := Flags.mk false false false false, rB := 0x00#8, rC := 0x00#8, rD := 0x00#8, rE := 0x00#8
    rH := 0x00#8, rL := 0x00#8, sp := 0x0000#16, pc := 0x0000#16, ime := false, imeScheduled := false
    mode := .running, ieReg := 0b00000#5, ifReg := 0b00000#5, faulted := false }

/-- What both post-boot states share (70_reset_and_hazards.md R242, 10_state.md R37). -/
def postBootCommon (s : State) : State :=
  { s with
    sp := 0xFFFE#16, pc := 0x0100#16, ime := false, imeScheduled := false, mode := .running
    ieReg := 0b00000#5, ifReg := 0b00001#5, faulted := false }

/-- The post-boot load, with the literals of `P_POST_BOOT` (70_reset_and_hazards.md R242, 10_state.md R37): what the move
changes where the host may make it (`hostMove`). -/
def loadPostBoot (s : State) : State :=
  match s.config.postBoot with
  | .dmg =>
    { postBootCommon s with
      rA := 0x01#8, f := Flags.mk true false true true, rB := 0x00#8, rC := 0x13#8, rD := 0x00#8, rE := 0xD8#8
      rH := 0x01#8, rL := 0x4D#8 }
  | .cgb =>
    { postBootCommon s with
      rA := 0x11#8, f := Flags.mk true false false false, rB := 0x00#8, rC := 0x00#8, rD := 0xFF#8, rE := 0x56#8
      rH := 0x00#8, rL := 0x0D#8 }

/-- A device of `P_DEVICES` with its regions (00_scope.md R6). -/
structure DeviceOption where
  device : Device
  regions : List (Word × Word)
deriving DecidableEq, Repr

/-- What a construction is given (70_reset_and_hazards.md R240). -/
structure Options where
  config : Config
  doubleSpeed : Bool
  /-- `P_INITIAL_MEMORY`, by its cells; an address with none holds 0x00 -/
  initialMemory : List (Word × Byte)
  /-- `P_DEVICES` -/
  devices : List DeviceOption
deriving DecidableEq, Repr

/-- The regions of one handler registered in order. -/
def addRegions (regions : List (Word × Word)) (h : Handler) (s : State) : Except ConstructionError State :=
  match regions with
  | [] => .ok s
  | (first, last) :: rest =>
    match addHandler first last h s with
    | .error e => .error e
    | .ok (_, s1) => addRegions rest h s1

/-- The devices' regions registered in order, from the device at place `i` on (20_memory.md R44). -/
def addDevices (ds : List DeviceOption) (i : Nat) (s : State) : Except ConstructionError State :=
  match ds with
  | [] => .ok s
  | d :: rest =>
    match addRegions d.regions (.device i) s with
    | .error e => .error e
    | .ok s1 => addDevices rest (i + 1) s1

/-- Construction, with the register file and the engine as after `Reset()` (70_reset_and_hazards.md R240). -/
def construct (o : Options) : Except ConstructionError State :=
  if o.doubleSpeed then .error .unsupportedFeature
  else
    let blank : State :=
      { State.reset with
        registry := [], nextHandle := 0, mem := Memory.ofCells o.initialMemory, config := o.config
        devices := o.devices.map DeviceOption.device }
    match addRegions [(ifAddress, ifAddress), (ieAddress, ieAddress)] .interruptController blank with
    | .error e => .error e
    | .ok s1 => addDevices o.devices 0 s1

/-- The options whose every parameter has its default (00_scope.md R6). -/
def Options.default : Options := { config := Config.default, doubleSpeed := false, initialMemory := [], devices := [] }

/-! ## The moves of the host -/

/-- What the host can do to a constructed block (60_exceptions.md R238). -/
inductive HostMove where
  /-- `Reset()` -/
  | reset
  /-- the post-boot load, in place of running a boot ROM -/
  | loadPostBoot
  /-- `Step()` -/
  | step
  /-- attach a debugger's or a device's handler to a region -/
  | attach (first last : Word) (h : Handler)
  /-- detach the handler with the handle -/
  | detach (handle : Nat)
  /-- `Request<Line>()` from the host (R213); joypad input is that of its line -/
  | request (l : Line)
  /-- stop calling `Step()` -/
  | stop
deriving DecidableEq, Repr

/-- What the host gets back from a move that is made (60_exceptions.md R238). -/
inductive HostAnswer where
  | nothing
  | cycles (n : Nat)
  | handle (n : Nat)
deriving DecidableEq, Repr

/-- Why the host gets an error back (60_exceptions.md R238). -/
inductive HostError where
  /-- the step faulted -/
  | fault (r : Fault)
  /-- the step was refused -/
  | refused (r : Refusal)
  /-- the region of the handler attached is out of order; DESIGN CHOICE (log entry 17) -/
  | badHandler (e : ConstructionError)
  /-- the move is not allowed after a fault or a refusal (log entry 17) -/
  | afterFault
deriving DecidableEq, Repr

/-- After a `Fault` or `Refused` result the host may make no move but `Reset()` and stop (60_exceptions.md R238). -/
def unlessFaulted (s : State) (move : Except HostError (HostAnswer × State)) : Except HostError (HostAnswer × State) :=
  if s.faulted then .error .afterFault else move

/-- `Step()`: the host gets `(cycles, error)` back (60_exceptions.md R238). -/
def hostStep (s : State) : Except HostError (HostAnswer × State) :=
  match step s with
  | .next t => .ok (.cycles t.cycles, t)
  | .fault r => .error (.fault r)
  | .refused r => .error (.refused r)

/-- Attaching a handler: the host gets its handle back (60_exceptions.md R238). DESIGN CHOICE (log entry 17): with
`start > end`, which R209 and 20_memory.md R41 refuse at construction only, the host gets the error `badHandler` back, and
the state stays as it was. -/
def hostAttach (first last : Word) (h : Handler) (s : State) : Except HostError (HostAnswer × State) :=
  match addHandler first last h s with
  | .ok (n, t) => .ok (.handle n, t)
  | .error e => .error (.badHandler e)

/-- A move of the host between two steps (60_exceptions.md R238). Only `Reset()` clears `faulted` (10_state.md R33). -/
def hostMove (m : HostMove) (s : State) : Except HostError (HostAnswer × State) :=
  match m with
  | .reset => .ok (.nothing, resetConsole s)
  | .loadPostBoot => unlessFaulted s (.ok (.nothing, loadPostBoot s))
  | .step => unlessFaulted s (hostStep s)
  | .attach first last h => unlessFaulted s (hostAttach first last h s)
  | .detach handle => unlessFaulted s (.ok (.nothing, removeHandler handle s))
  | .request l => unlessFaulted s (.ok (.nothing, s.request l))
  | .stop => .ok (.nothing, s)

end Sys2Proof.Machine
end

