-- ==== Sys2Proof/WellFormed.lean ====
section
/-! DEFINITION. Which terms of `Instr` an instruction stream can hold. Every operand type admits exactly the values
the encoding admits, so one check is left. -/

namespace Sys2Proof

/-- The term is the bare marker row, which is never executed alone (45_system.md R204): its two bytes are those of a
prefixed instruction. -/
def Instr.isBareMarker (i : Instr) : Bool :=
  match i with
  | .prefixCB _ => true
  | _ => false

/-- The instruction is one that some bytes decode to. -/
def Instr.wellFormed (i : Instr) : Bool := !i.isBareMarker

end Sys2Proof
end

