-- ==== Sys2Proof/Safety.lean ====
section
/-! DEFINITION. The terms claims are stated in: the invariant of a run, addresses that are plain memory, what follows an
access, what an instruction stores to, and the ends of a run (60_exceptions.md R239). No meaning uses them. -/

namespace Sys2Proof.Machine

/-- The address is covered by no handler, or only by handlers that pass through: plain memory (20_memory.md R56). -/
def State.plainAt (s : State) (a : Word) : Bool :=
  s.registry.all fun r => !r.covers a || decide (r.handler = .fixed .passthrough .passthrough)

/-- The interrupt controller's registrations come first (20_memory.md R44). -/
def State.controllerFirst (s : State) : Bool := decide (s.registry.take 2 = controllerRegistrations)

/-- Every region is in order (20_memory.md R41), the handles rise and the counter is above them (10_state.md R32). -/
def registryWfFrom (lo next : Nat) : List Registration → Bool
  | [] => decide (lo ≤ next)
  | r :: rest =>
    decide (lo ≤ r.handle) && decide (r.first.toNat ≤ r.last.toNat) && registryWfFrom (r.handle + 1) next rest

/-- The registry is well formed. -/
def State.registryWf (s : State) : Bool := registryWfFrom 0 s.nextHandle s.registry

/-- What holds of every state that a run goes on from. -/
structure State.Inv (s : State) : Prop where
  /-- the backing array is in canonical form -/
  memWf : Memory.wf s.mem = true
  /-- 20_memory.md R44 -/
  controllerFirst : s.controllerFirst = true
  /-- 10_state.md R32, 20_memory.md R41 -/
  registryWf : s.registryWf = true
  /-- 10_state.md R26: without the delay nothing is ever scheduled -/
  scheduledOnlyIfDelayed : s.config.eiDelayed = false → s.imeScheduled = false
  /-- a promotion precedes every HALT, so a halted engine has none pending (30_encoding.md R89) -/
  haltedNotScheduled : s.mode = .halted → s.imeScheduled = false
  /-- 10_state.md R33 -/
  notFaulted : s.faulted = false

/-- The registers, flags, counters and engine state of `t` are those of `s`: only memory, the interrupt controller,
the devices and the cost may differ. What one bus access leaves unchanged (20_memory.md R45, R46). -/
def State.sameCpu (s t : State) : Prop :=
  t.rA = s.rA ∧ t.f = s.f ∧ t.rB = s.rB ∧ t.rC = s.rC ∧ t.rD = s.rD ∧ t.rE = s.rE ∧ t.rH = s.rH ∧ t.rL = s.rL ∧
  t.sp = s.sp ∧ t.pc = s.pc ∧ t.ime = s.ime ∧ t.imeScheduled = s.imeScheduled ∧ t.mode = s.mode ∧ t.faulted = s.faulted

/-- The parts of the state that no step changes: the registry, its counter and the parameters (20_memory.md R43,
10_state.md R36). -/
def State.sameSetup (s t : State) : Prop :=
  t.registry = s.registry ∧ t.nextHandle = s.nextHandle ∧ t.config = s.config

/-- The backing byte at every address but those of `addrs` is unchanged. -/
def State.sameBytesBut (s t : State) (addrs : List Word) : Prop :=
  ∀ x : Word, x ∉ addrs → t.peek x = s.peek x

/-- One letter of an annotation holds of a flag's value before and after (10_state.md R20). -/
def effectAllows (e : FlagEffect) (before after : Bool) : Prop :=
  match e with
  | .keep => after = before
  | .zero => after = false
  | .one => after = true
  | .comp => True

/-- A flag-effect annotation holds of the flags before and after (10_state.md R20). -/
def noteAllows (n : FlagNote) (before after : Flags) : Prop :=
  effectAllows n.z before.z after.z ∧ effectAllows n.n before.n after.n ∧
  effectAllows n.h before.h after.h ∧ effectAllows n.c before.c after.c

/-- The step completes: it returns `Ok(cycles)`. -/
def State.completes (s : State) : Prop := ∃ t, step s = .next t

/-- A safe run: `k` steps complete. -/
def State.safeFor (k : Nat) (s : State) : Prop :=
  match k with
  | 0 => True
  | k + 1 => ∃ t, step s = .next t ∧ State.safeFor k t

/-- A quiescent halt under the default wake condition and without devices (60_exceptions.md R239). -/
def State.quiescent (s : State) : Prop :=
  s.mode = .halted ∧ s.ieReg &&& s.ifReg = 0#5 ∧ s.config.haltWake = .enabledAndRequested ∧ s.devices = []

/-! ## What follows an operation -/

/-- `o` is what follows the operation `first`: after its next state the state `k` of it; its fault, if it faults. -/
def Follows {α : Type} (first : Host.Outcome α Fault Refusal) (o : Out) (k : α → State) : Prop :=
  (∀ a, first = .next a → o = .next (k a)) ∧ ∀ r, first = .fault r → o = .fault r

/-- `o` is what follows two operations in a row, the second given what the first left. -/
def FollowsTwo {α β : Type} (first : Host.Outcome α Fault Refusal) (second : α → Host.Outcome β Fault Refusal) (o : Out)
    (k : α → β → State) : Prop :=
  (∀ a, first = .next a → Follows (second a) o (k a)) ∧ ∀ r, first = .fault r → o = .fault r

/-! ## Handlers in turn -/

/-- Every handler of the list that covers the address is asked for a read in turn, and passes (20_memory.md R45). -/
inductive ReadPasses (a : Word) : List Registration → State → State → Prop where
  | done (s : State) : ReadPasses a [] s s
  | outside {r : Registration} {rest : List Registration} {s t : State} (h : r.covers a = false)
      (hr : ReadPasses a rest s t) : ReadPasses a (r :: rest) s t
  | pass {r : Registration} {rest : List Registration} {s s1 t : State} (h : r.covers a = true)
      (hp : r.handler.onRead a s = (.passthrough, s1)) (hr : ReadPasses a rest s1 t) : ReadPasses a (r :: rest) s t

/-- Every handler of the list that covers the address is given the write in turn, and passes (20_memory.md R46). -/
inductive WritePasses (a : Word) (v : Byte) : List Registration → State → State → Prop where
  | done (s : State) : WritePasses a v [] s s
  | outside {r : Registration} {rest : List Registration} {s t : State} (h : r.covers a = false)
      (hr : WritePasses a v rest s t) : WritePasses a v (r :: rest) s t
  | pass {r : Registration} {rest : List Registration} {s s1 t : State} (h : r.covers a = true)
      (hp : r.handler.onWrite a v s = (.passthrough, s1)) (hr : WritePasses a v rest s1 t) :
      WritePasses a v (r :: rest) s t

/-- The handler never aborts: the controller (60_exceptions.md R207), or a fixed answer that is no abort. -/
def Handler.neverAborts (h : Handler) : Bool :=
  match h with
  | .interruptController => true
  | .device _ => false
  | .fixed r w => decide (r ≠ .abort) && decide (w ≠ .abort)

/-- No handler of the registry can abort an access. -/
def State.busIsSafe (s : State) : Bool := s.registry.all fun r => r.handler.neverAborts

/-! ## The decode ROM by its rules -/

/-- The eleven unprefixed bytes without an entry (30_encoding.md R80). -/
def undefinedBytes : List Byte :=
  [0xD3#8, 0xDB#8, 0xDD#8, 0xE3#8, 0xE4#8, 0xEB#8, 0xEC#8, 0xED#8, 0xF4#8, 0xFC#8, 0xFD#8]

/-- The unprefixed opcodes two bytes long (30_encoding.md R82). -/
def twoByteOpcodes : List Byte :=
  [0x06#8, 0x0E#8, 0x10#8, 0x16#8, 0x18#8, 0x1E#8, 0x20#8, 0x26#8, 0x28#8, 0x2E#8, 0x30#8, 0x36#8, 0x38#8] ++
  [0x3E#8, 0xC6#8, 0xCE#8, 0xD6#8, 0xDE#8, 0xE0#8, 0xE6#8, 0xE8#8, 0xEE#8, 0xF0#8, 0xF6#8, 0xF8#8, 0xFE#8]

/-- The opcodes three bytes long (30_encoding.md R82). -/
def threeByteOpcodes : List Byte :=
  [0x01#8, 0x08#8, 0x11#8, 0x21#8, 0x31#8, 0xC2#8, 0xC3#8, 0xC4#8, 0xCA#8] ++
  [0xCC#8, 0xCD#8, 0xD2#8, 0xD4#8, 0xDA#8, 0xDC#8, 0xEA#8, 0xFA#8]

/-- Result and carry of a prefixed rotate or shift, by the slices of the byte (43_rotate_shift_bit.md R166-R181): what
`Rot.run` is held against. -/
def rotated (op : Rot) (v : Byte) (cin : Bool) : Byte × Bool :=
  match op with
  | .rlc => (v.extractLsb' 0 7 ++ v.extractLsb' 7 1, v.getLsbD 7)
  | .rrc => (v.extractLsb' 0 1 ++ v.extractLsb' 1 7, v.getLsbD 0)
  | .rl => (v.extractLsb' 0 7 ++ BitVec.ofBool cin, v.getLsbD 7)
  | .rr => (BitVec.ofBool cin ++ v.extractLsb' 1 7, v.getLsbD 0)
  | .sla => (v.extractLsb' 0 7 ++ 0#1, v.getLsbD 7)
  | .sra => (v.extractLsb' 7 1 ++ v.extractLsb' 1 7, v.getLsbD 0)
  | .swap => (v.extractLsb' 0 4 ++ v.extractLsb' 4 4, false)
  | .srl => (0#1 ++ v.extractLsb' 1 7, v.getLsbD 0)

/-- The two addresses a push writes (20_memory.md R51). -/
def State.pushAddresses (s : State) : List Word := [s.sp - 1#16, s.sp - 2#16]

end Sys2Proof.Machine

namespace Sys2Proof

open Machine

/-! ## What an instruction may touch -/

/-- The instruction transfers control: it may write `pc` (10_state.md R24, 44_control.md). -/
def Instr.transfers (i : Instr) : Bool :=
  match i with
  | .jp_a16 _ | .jp_nz_a16 _ | .jp_z_a16 _ | .jp_nc_a16 _ | .jp_c_a16 _ | .jp_hl => true
  | .jr_e8 _ | .jr_nz_e8 _ | .jr_z_e8 _ | .jr_nc_e8 _ | .jr_c_e8 _ => true
  | .call_a16 _ | .call_nz_a16 _ | .call_z_a16 _ | .call_nc_a16 _ | .call_c_a16 _ => true
  | .ret | .ret_nz | .ret_z | .ret_nc | .ret_c | .reti => true
  | .rst_00 | .rst_08 | .rst_10 | .rst_18 | .rst_20 | .rst_28 | .rst_30 | .rst_38 => true
  | _ => false

/-- The instruction may write IME or the delayed EI (10_state.md R25, R26). -/
def Instr.controlsInterrupts (i : Instr) : Bool :=
  match i with
  | .di | .ei | .reti => true
  | _ => false

/-- The instruction moves `sp` by a push or a pop (10_state.md R23). -/
def Instr.usesStack (i : Instr) : Bool :=
  match i with
  | .push_bc | .push_de | .push_hl | .push_af | .pop_bc | .pop_de | .pop_hl | .pop_af => true
  | .call_a16 _ | .call_nz_a16 _ | .call_z_a16 _ | .call_nc_a16 _ | .call_c_a16 _ => true
  | .ret | .ret_nz | .ret_z | .ret_nc | .ret_c | .reti => true
  | .rst_00 | .rst_08 | .rst_10 | .rst_18 | .rst_20 | .rst_28 | .rst_30 | .rst_38 => true
  | _ => false

/-- The addresses the instruction stores to, computed as its meaning computes them; none for a form that stores nothing. -/
def Instr.storeAddresses (i : Instr) (s : State) : List Word :=
  match i with
  | .ld_mHL_b | .ld_mHL_c | .ld_mHL_d | .ld_mHL_e | .ld_mHL_h | .ld_mHL_l | .ld_mHL_a | .ld_mHL_n8 _ => [s.hl]
  | .ld_mHLinc_a | .ld_mHLdec_a | .inc_mHL | .dec_mHL => [s.hl]
  | .ld_mBC_a => [s.bc]
  | .ld_mDE_a => [s.de]
  | .ld_mA16_a a => [a]
  | .ldh_mA8_a a => [highPage a]
  | .ld_mC_a => [highPage s.rC]
  | .ld_mA16_sp a => [a, a + 1#16]
  | .push_bc | .push_de | .push_hl | .push_af | .call_a16 _ => s.pushAddresses
  | .rst_00 | .rst_08 | .rst_10 | .rst_18 | .rst_20 | .rst_28 | .rst_30 | .rst_38 => s.pushAddresses
  | .call_nz_a16 _ => if Cond.nz.holds s.f then s.pushAddresses else []
  | .call_z_a16 _ => if Cond.z.holds s.f then s.pushAddresses else []
  | .call_nc_a16 _ => if Cond.nc.holds s.f then s.pushAddresses else []
  | .call_c_a16 _ => if Cond.c.holds s.f then s.pushAddresses else []
  | .rlc_mHL | .rrc_mHL | .rl_mHL | .rr_mHL | .sla_mHL | .sra_mHL | .swap_mHL | .srl_mHL => [s.hl]
  | .res_0_mHL | .res_1_mHL | .res_2_mHL | .res_3_mHL | .res_4_mHL | .res_5_mHL | .res_6_mHL | .res_7_mHL => [s.hl]
  | .set_0_mHL | .set_1_mHL | .set_2_mHL | .set_3_mHL | .set_4_mHL | .set_5_mHL | .set_6_mHL | .set_7_mHL => [s.hl]
  | .prefixCB op2 =>
    if op2.extractLsb' 0 3 = 6#3 ∧ op2.extractLsb' 6 2 ≠ 1#2 then [s.hl] else []
  | _ => []

end Sys2Proof

namespace Sys2Proof.Machine

/-! ## How a step ends -/

/-- The state a fault leaves (60_exceptions.md R208). -/
def Fault.final (r : Fault) : State :=
  match r with
  | .decodeFailure _ _ _ t => t
  | .illegalBusAccess _ _ _ _ t => t
  | .stuckAfterFault t => t

/-- The wake condition of a halted engine (60_exceptions.md R225). -/
def State.wakeHolds (s : State) : Prop :=
  (s.config.haltWake = .enabledAndRequested ∧ s.ieReg &&& s.ifReg ≠ 0#5) ∨
  (s.config.haltWake = .anyRequested ∧ s.ifReg ≠ 0#5)

/-- The place of a device's kind in the order of the peripheral phase (60_exceptions.md R235). -/
def State.stepRank (s : State) (i : Nat) : Nat :=
  match s.devices[i]? with
  | none => steppedKinds.length
  | some d => steppedKinds.idxOf d.kind

end Sys2Proof.Machine
end

