-- ==== Sys2Proof/Certificates/Slice0/Obligations.lean ====
section
/-! DEFINITION. The statements for the provers. A statement about an instruction's result gives the whole next state of
`exec`, so every field it does not name is unchanged: that equation is its frame and its completion. `pc` holds `pc_next`
when `exec` runs (00_scope.md R13). -/

open Sys2Proof Sys2Proof.Machine

/-! ## Encoding -/

/-- Decoding the bytes of a well-formed instruction gives it back, with every operand (30_encoding.md R66, R74-R79). -/
def Obligations.DecodeEncodeRoundTrip : Prop :=
  ∀ (i : Instr) (rest : List Byte), i.wellFormed = true → decode (encode i ++ rest) = .ok (i, rest)

/-- What decodes is the encoding of the well-formed instruction it decodes to: each byte string has one meaning. -/
def Obligations.EncodeDecodeRoundTrip : Prop :=
  ∀ (i : Instr) (bytes rest : List Byte), decode bytes = .ok (i, rest) →
    bytes = encode i ++ rest ∧ i.wellFormed = true

/-- 30_encoding.md R80, and 60_exceptions.md R206 on the step that fetches such a byte, with no promotion of EI before the
fetch: no register (`pc` among them), flag, IME, IE, IF or memory byte changes. The step right after EI is a clause of
`FaultEndsStep`. -/
def Obligations.UndefinedBytesFault : Prop :=
  (∀ b : Byte, UNPREFIXED b = none ↔ b ∈ undefinedBytes) ∧ (∀ b : Byte, PREFIXED b ≠ none) ∧
  ∀ (s t : State) (b : Byte), s.faulted = false → s.mode = .running → s.imeScheduled = false →
    read8 s.pc s = .next (b, t) → b ∈ undefinedBytes →
    step s = .fault (.decodeFailure s.pc false b { t with faulted := true }) ∧
      s.sameCpu t ∧ t.mem = s.mem ∧ t.ieReg = s.ieReg ∧ t.ifReg = s.ifReg

/-- 30_encoding.md R82. -/
def Obligations.LengthFromFirstByte : Prop :=
  (∀ b : Byte, lengthFromByte b =
    if b = 0xCB#8 then some 2
    else if b ∈ undefinedBytes then none
    else if b ∈ twoByteOpcodes then some 2
    else if b ∈ threeByteOpcodes then some 3
    else some 1) ∧
  ∀ i : Instr, ∃ (b : Byte) (rest : List Byte), encode i = b :: rest ∧ lengthFromByte b = some (encode i).length

/-- Words written out from the spec's encodings decode to the instructions they stand for. -/
def Obligations.WordsOfTheSpec : Prop :=
  decode [0x48#8] = .ok (.ld_c_b, []) ∧ decode [0x3E#8, 0x42#8] = .ok (.ld_a_n8 0x42#8, []) ∧
  decode [0xFA#8, 0x00#8, 0xC0#8] = .ok (.ld_a_mA16 0xC000#16, []) ∧ decode [0xC5#8] = .ok (.push_bc, []) ∧
  decode [0x80#8] = .ok (.add_a_b, []) ∧ decode [0x87#8] = .ok (.add_a_a, []) ∧ decode [0xBF#8] = .ok (.cp_a_a, []) ∧
  decode [0x39#8] = .ok (.add_hl_sp, []) ∧ decode [0xE8#8, 0xFF#8] = .ok (.add_sp_e8 0xFF#8, []) ∧
  decode [0xCB#8, 0x37#8] = .ok (.swap_a, []) ∧ decode [0xCB#8, 0x7C#8] = .ok (.bit_7_h, []) ∧
  decode [0xCB#8, 0x8E#8] = .ok (.res_1_mHL, []) ∧ decode [0xC2#8, 0x34#8, 0x12#8] = .ok (.jp_nz_a16 0x1234#16, []) ∧
  decode [0xCF#8] = .ok (.rst_08, []) ∧ decode [0x76#8] = .ok (.halt, []) ∧ decode [0xFB#8] = .ok (.ei, [])

/-- 45_system.md R204 and 30_encoding.md R73, R79: the marker is never executed alone, and the row of the marker means
the prefixed instruction of its next byte, found by that byte's fields. The constructor of the row, and that its meaning
is defined at all, are the model's choice (log entry 13). -/
def Obligations.MarkerRunsPrefixedInstruction : Prop :=
  (∀ (op2 : Byte) (rest : List Byte), decode (0xCB#8 :: op2 :: rest) = .ok (Instr.prefixed op2, rest)) ∧
  (∀ (op2 : Byte) (s : State), exec (.prefixCB op2) s = exec (Instr.prefixed op2) s)

/-! ## Registers and flags -/

/-- 10_state.md R16 and R18: the compound views are projections, and F packs the four booleans into bits 7-4. -/
def Obligations.CompoundViewsAndFlags : Prop :=
  (∀ s : State,
    s.af = (s.rA.setWidth 16 <<< 8 ||| s.f.toByte.setWidth 16) ∧ s.bc = (s.rB.setWidth 16 <<< 8 ||| s.rC.setWidth 16) ∧
    s.de = (s.rD.setWidth 16 <<< 8 ||| s.rE.setWidth 16) ∧ s.hl = (s.rH.setWidth 16 <<< 8 ||| s.rL.setWidth 16)) ∧
  (∀ (s : State) (v : Word),
    s.setStackPair .bc v = { s with rB := v.extractLsb' 8 8, rC := v.extractLsb' 0 8 } ∧
    s.setStackPair .de v = { s with rD := v.extractLsb' 8 8, rE := v.extractLsb' 0 8 } ∧
    s.setStackPair .hl v = { s with rH := v.extractLsb' 8 8, rL := v.extractLsb' 0 8 } ∧
    (s.setStackPair .af v).rA = v.extractLsb' 8 8 ∧
    (s.setStackPair .af v).f.toByte = v.extractLsb' 0 8 &&& 0xF0#8 ∧
    { s.setStackPair .af v with rA := s.rA, f := s.f } = s) ∧
  ∀ g : Flags, g.toByte.getLsbD 7 = g.z ∧ g.toByte.getLsbD 6 = g.n ∧ g.toByte.getLsbD 5 = g.h ∧
    g.toByte.getLsbD 4 = g.c ∧ g.toByte &&& 0x0F#8 = 0x00#8 ∧ Flags.ofByte g.toByte = g

/-! ## Reset, post-boot, construction -/

/-- 70_reset_and_hazards.md R241. -/
def Obligations.ResetValues : Prop :=
  ∀ s : State, resetConsole s =
    { s with
      rA := 0#8, f := { z := false, n := false, h := false, c := false }, rB := 0#8, rC := 0#8, rD := 0#8, rE := 0#8
      rH := 0#8, rL := 0#8, sp := 0#16, pc := 0#16, ime := false, imeScheduled := false, mode := .running
      ieReg := 0#5, ifReg := 0#5, faulted := false } ∧
    (resetConsole s).af = 0#16 ∧ (resetConsole s).bc = 0#16 ∧ (resetConsole s).de = 0#16 ∧ (resetConsole s).hl = 0#16

/-- 70_reset_and_hazards.md R242, with the literals of 10_state.md R37. -/
def Obligations.PostBootValues : Prop :=
  ∀ s : State,
    (s.config.postBoot = .dmg → loadPostBoot s =
      { s with
        rA := 0x01#8, f := { z := true, n := false, h := true, c := true }, rB := 0x00#8, rC := 0x13#8, rD := 0x00#8
        rE := 0xD8#8, rH := 0x01#8, rL := 0x4D#8, sp := 0xFFFE#16, pc := 0x0100#16, ime := false
        imeScheduled := false, mode := .running, ieReg := 0b00000#5, ifReg := 0b00001#5, faulted := false } ∧
      (loadPostBoot s).af = 0x01B0#16 ∧ (loadPostBoot s).bc = 0x0013#16 ∧ (loadPostBoot s).de = 0x00D8#16 ∧
      (loadPostBoot s).hl = 0x014D#16) ∧
    (s.config.postBoot = .cgb → loadPostBoot s =
      { s with
        rA := 0x11#8, f := { z := true, n := false, h := false, c := false }, rB := 0x00#8, rC := 0x00#8, rD := 0xFF#8
        rE := 0x56#8, rH := 0x00#8, rL := 0x0D#8, sp := 0xFFFE#16, pc := 0x0100#16, ime := false
        imeScheduled := false, mode := .running, ieReg := 0b00000#5, ifReg := 0b00001#5, faulted := false })

/-- A construction is refused exactly for the double-speed feature or a region out of order (60_exceptions.md R209). What
it yields has the controller's registrations first, then the regions of the devices in the order of `P_DEVICES`, the
handles counting up from 0, the parameters and devices given, and the invariant (20_memory.md R44,
70_reset_and_hazards.md R240). -/
def Obligations.ConstructionOrRefusal : Prop :=
  ∀ o : Options,
    ((∃ e, construct o = .error e) ↔
      o.doubleSpeed = true ∨ ∃ d ∈ o.devices, ∃ r ∈ d.regions, r.2.toNat < r.1.toNat) ∧
    (∀ s, construct o = .ok s → s.Inv ∧ s.registry.take 2 = controllerRegistrations ∧ s.config = o.config ∧
      s.devices = o.devices.map DeviceOption.device ∧ s.mem = Memory.ofCells o.initialMemory ∧ resetConsole s = s ∧
      s.registry.map (fun r => (r.first, r.last, r.handler)) =
        [(0xFF0F#16, 0xFF0F#16, .interruptController), (0xFFFF#16, 0xFFFF#16, .interruptController)] ++
        o.devices.zipIdx.flatMap (fun d => d.1.regions.map fun region => (region.1, region.2, .device d.2)) ∧
      s.registry.map Registration.handle = List.range s.registry.length ∧ s.nextHandle = s.registry.length)

/-- With every parameter at its default, construction yields the reset state; reset keeps the invariant. -/
def Obligations.ResetSatisfiesInvariant : Prop :=
  construct Options.default = .ok State.reset ∧ State.reset.Inv ∧ ∀ s : State, s.Inv → (resetConsole s).Inv

/-! ## The bus -/

/-- 20_memory.md R45: the covering handlers are asked in registration order; the first that does not pass answers. The
state an abort leaves is a clause of `BusAccessFrame`. -/
def Obligations.ReadTakesFirstAnswer : Prop :=
  ∀ (s t : State) (a : Word),
    (ReadPasses a s.registry s t → read8 a s = .next (t.peek a, t)) ∧
    ∀ (before after : List Registration) (r : Registration), s.registry = before ++ r :: after →
      ReadPasses a before s t → r.covers a = true →
      (∀ v u, r.handler.onRead a t = (.replace v, u) → read8 a s = .next (v, u)) ∧
      ∀ u, r.handler.onRead a t = (.abort, u) →
        ∃ w, read8 a s = .fault (.illegalBusAccess a .read none r.handle w) ∧ w.faulted = true

/-- 20_memory.md R46: the covering handlers are given the value in registration order; the first that does not pass ends
the write, and a block leaves the backing array as it was. The state an abort leaves is a clause of `BusAccessFrame`. -/
def Obligations.WriteTakesFirstAnswer : Prop :=
  ∀ (s t : State) (a : Word) (v : Byte),
    (WritePasses a v s.registry s t → write8 a v s = .next { t with mem := Memory.write t.mem a.toNat v }) ∧
    ∀ (before after : List Registration) (r : Registration), s.registry = before ++ r :: after →
      WritePasses a v before s t → r.covers a = true →
      (∀ u, r.handler.onWrite a v t = (.block, u) → write8 a v s = .next u ∧ u.mem = s.mem) ∧
      (∀ v' u, r.handler.onWrite a v t = (.replace v', u) →
        write8 a v s = .next { u with mem := Memory.write u.mem a.toNat v' }) ∧
      ∀ u, r.handler.onWrite a v t = (.abort, u) →
        ∃ w, write8 a v s = .fault (.illegalBusAccess a .write (some v) r.handle w) ∧ w.faulted = true ∧ w.mem = s.mem

/-- 60_exceptions.md R214 and R215: IE at 0xFFFF and IF at 0xFF0F; the backing bytes there are neither read nor written. -/
def Obligations.ControllerRegistersOnBus : Prop :=
  ∀ s : State, s.controllerFirst = true →
    read8 0xFFFF#16 s = .next (s.config.ieUpper ++ s.ieReg, s) ∧
    read8 0xFF0F#16 s = .next (s.config.ifUpper ++ s.ifReg, s) ∧
    (∀ v : Byte, write8 0xFFFF#16 v s = .next { s with ieReg := (v &&& 0x1F#8).setWidth 5 }) ∧
    (∀ v : Byte, write8 0xFF0F#16 v s = .next { s with ifReg := (v &&& 0x1F#8).setWidth 5 }) ∧
    Config.default.ieUpper = 0b111#3 ∧ Config.default.ifUpper = 0b111#3

/-- A bus access leaves every register, flag and engine state alone; a read leaves memory, IE and IF alone too, a write
every byte but the one at its address; an access that aborts has no effect on those (20_memory.md R45, R46, R60;
60_exceptions.md R207); no access is refused. The last two clauses give the state an abort leaves: that the aborting
handler's own device is unmoved is the model's reading of R207, log entry 8 (DEDUCED). -/
def Obligations.BusAccessFrame : Prop :=
  ∀ (s : State) (a : Word) (v : Byte),
    (∀ w t, read8 a s = .next (w, t) → s.sameCpu t ∧ s.sameSetup t ∧ t.mem = s.mem ∧ t.ieReg = s.ieReg ∧
      t.ifReg = s.ifReg ∧ t.cycles = s.cycles) ∧
    (∀ t, write8 a v s = .next t → s.sameCpu t ∧ s.sameSetup t ∧ s.sameBytesBut t [a] ∧
      (a ≠ 0xFFFF#16 → t.ieReg = s.ieReg) ∧ (a ≠ 0xFF0F#16 → t.ifReg = s.ifReg) ∧ t.cycles = s.cycles) ∧
    (∀ r, read8 a s = .fault r → ∃ handle t, r = .illegalBusAccess a .read none handle { t with faulted := true } ∧
      s.sameCpu t ∧ s.sameSetup t ∧ t.mem = s.mem ∧ t.ieReg = s.ieReg ∧ t.ifReg = s.ifReg) ∧
    (∀ r, write8 a v s = .fault r → ∃ handle t,
      r = .illegalBusAccess a .write (some v) handle { t with faulted := true } ∧
      s.sameCpu t ∧ s.sameSetup t ∧ t.mem = s.mem ∧ t.ieReg = s.ieReg ∧ t.ifReg = s.ifReg) ∧
    (∀ r, read8 a s ≠ .refused r) ∧ (∀ r, write8 a v s ≠ .refused r) ∧
    ∀ (before after : List Registration) (r : Registration) (t u : State), s.registry = before ++ r :: after →
      r.covers a = true →
      (ReadPasses a before s t → r.handler.onRead a t = (.abort, u) →
        read8 a s = .fault (.illegalBusAccess a .read none r.handle { t with faulted := true })) ∧
      (WritePasses a v before s t → r.handler.onWrite a v t = (.abort, u) →
        write8 a v s = .fault (.illegalBusAccess a .write (some v) r.handle { t with faulted := true }))

/-- Plain memory (20_memory.md R56, R60): a read has no side effect, a write is seen by the next read and by no other
address, and a 16-bit value written is read back, stored little-endian (R47-R50). -/
def Obligations.PlainMemoryRoundTrip : Prop :=
  ∀ (s : State) (a : Word), s.plainAt a = true → Memory.wf s.mem = true →
    read8 a s = .next (s.peek a, s) ∧
    (∀ v : Byte, ∃ t, write8 a v s = .next t ∧ t = { s with mem := t.mem } ∧ Memory.wf t.mem = true ∧
      read8 a t = .next (v, t) ∧ s.sameBytesBut t [a]) ∧
    (s.plainAt (a + 1#16) = true → ∀ v : Word, ∃ t, write16 a v s = .next t ∧ t = { s with mem := t.mem } ∧
      read16 a t = .next (v, t) ∧ t.peek a = v.extractLsb' 0 8 ∧ t.peek (a + 1#16) = v.extractLsb' 8 8 ∧
      s.sameBytesBut t [a, a + 1#16])

/-- Registering and removing a handler (20_memory.md R41 and R42). R41 refuses a region out of order at construction; the
clause on it is over every state, and that such a region is refused between two steps too is the model's choice (log
entry 17, DESIGN CHOICE). -/
def Obligations.HandlersAddedAndRemoved : Prop :=
  ∀ (s : State) (first last : Word) (h : Handler),
    (first.toNat ≤ last.toNat → addHandler first last h s = .ok (s.nextHandle,
      { s with
        registry := s.registry ++ [{ handle := s.nextHandle, first := first, last := last, handler := h }]
        nextHandle := s.nextHandle + 1 })) ∧
    (last.toNat < first.toNat → addHandler first last h s = .error (.badRegion first last)) ∧
    (∀ n : Nat, (∀ r ∈ s.registry, r.handle ≠ n) → removeHandler n s = s) ∧
    (∀ n : Nat, removeHandler n s = { s with registry := (removeHandler n s).registry } ∧
      (removeHandler n s).registry.Sublist s.registry ∧
      ∀ r ∈ s.registry, r ∈ (removeHandler n s).registry ↔ r.handle ≠ n) ∧
    (s.registryWf = true → (∀ r ∈ s.registry, r.handle < s.nextHandle) ∧
      ∀ n t, addHandler first last h s = .ok (n, t) →
        t.registryWf = true ∧ removeHandler n t = { s with nextHandle := s.nextHandle + 1 })

/-! ## The stack -/

/-- 20_memory.md R51 and R52: the order of the halves, and what each does when an access faults. -/
def Obligations.StackOrder : Prop :=
  ∀ (s : State) (v : Word),
    FollowsTwo (write8 (s.sp - 1#16) (v.extractLsb' 8 8) { s with sp := s.sp - 1#16 })
      (fun s1 => write8 (s1.sp - 1#16) (v.extractLsb' 0 8) { s1 with sp := s1.sp - 1#16 }) (push16 v s)
      (fun _ s2 => s2) ∧
    (∀ lo s1, read8 s.sp s = .next (lo, s1) → ∀ hi s2, read8 (s1.sp + 1#16) { s1 with sp := s1.sp + 1#16 } = .next (hi, s2) →
      pop16 s = .next (hi ++ lo, { s2 with sp := s2.sp + 1#16 })) ∧
    (∀ r, read8 s.sp s = .fault r → pop16 s = .fault r) ∧
    ∀ lo s1 r, read8 s.sp s = .next (lo, s1) → read8 (s1.sp + 1#16) { s1 with sp := s1.sp + 1#16 } = .fault r →
      pop16 s = .fault r

/-- A pop after a push gives the value back and restores `sp`; the value lies little-endian at the new `sp`, and no
other byte and no other register moves (20_memory.md R51, R52, R49). -/
def Obligations.PopUndoesPush : Prop :=
  ∀ (s : State) (v : Word), Memory.wf s.mem = true → s.plainAt (s.sp - 1#16) = true → s.plainAt (s.sp - 2#16) = true →
    ∃ t, push16 v s = .next t ∧ t = { s with sp := s.sp - 2#16, mem := t.mem } ∧
      t.peek (s.sp - 2#16) = v.extractLsb' 0 8 ∧ t.peek (s.sp - 1#16) = v.extractLsb' 8 8 ∧
      s.sameBytesBut t [s.sp - 1#16, s.sp - 2#16] ∧ pop16 t = .next (v, { t with sp := s.sp })

/-! ## Interrupts -/

/-- 60_exceptions.md R217: the highest-priority line that is enabled and requested, the lowest set bit of IE & IF. -/
def Obligations.HighestPriorityLine : Prop :=
  ∀ s : State,
    (s.nextRequest = none ↔ s.ieReg &&& s.ifReg = 0#5) ∧
    ∀ l : Line, s.nextRequest = some l ↔
      (s.ieReg &&& s.ifReg).getLsbD (lineIndex l) = true ∧
      ∀ l' : Line, lineIndex l' < lineIndex l → (s.ieReg &&& s.ifReg).getLsbD (lineIndex l') = false

/-- 60_exceptions.md R218, and the effect of R213: a consumption clears the line it returns and that line only; a request
sets its line and that line only, and is idempotent. -/
def Obligations.ConsumeAndRequestOneLine : Prop :=
  ∀ s : State,
    s.consumeRequest.1 = s.nextRequest ∧
    (s.nextRequest = none → s.consumeRequest.2 = s) ∧
    (∀ l, s.nextRequest = some l → s.consumeRequest.2 = { s with ifReg := s.consumeRequest.2.ifReg } ∧
      ∀ l', s.consumeRequest.2.ifReg.getLsbD (lineIndex l') =
        (if l' = l then false else s.ifReg.getLsbD (lineIndex l'))) ∧
    ∀ l, s.request l = { s with ifReg := (s.request l).ifReg } ∧ (s.request l).request l = s.request l ∧
      ∀ l', (s.request l).ifReg.getLsbD (lineIndex l') = (if l' = l then true else s.ifReg.getLsbD (lineIndex l'))

/-- 60_exceptions.md R221 and R222, with the wake and the condition of the poll (R220, R225): no service changes nothing
but a halted engine's mode; a service clears the line, IME and the delayed EI, runs, pushes `pc` and goes to the vector. -/
def Obligations.PollAndService : Prop :=
  (lineIndex .vblank = 0 ∧ lineIndex .lcdStat = 1 ∧ lineIndex .timer = 2 ∧ lineIndex .serial = 3 ∧
    lineIndex .joypad = 4) ∧
  ∀ s : State,
    (s.ime = false ∨ s.nextRequest = none →
      (s.mode = .halted → s.wakeHolds → pollInterrupts s = .next { s with mode := .running }) ∧
      (s.mode = .running ∨ ¬ s.wakeHolds → pollInterrupts s = .next s)) ∧
    ∀ l : Line, s.ime = true → s.nextRequest = some l →
      Follows
        (push16 s.pc { s with
          ifReg := s.ifReg &&& ~~~(1#5 <<< lineIndex l), ime := false, imeScheduled := false, mode := .running })
        (pollInterrupts s) fun t =>
        { t with pc := 0x0040#16 + 8#16 * BitVec.ofNat 16 (lineIndex l)
                 cycles := t.cycles + t.config.intServiceCycles }

/-- A service with the stack in plain memory: `pc` of the poll stored little-endian, high byte at `sp - 1`, `sp` down by
two, and nothing else but IF's bit, IME, the delayed EI, the mode, `pc` and the cost (60_exceptions.md R221-R223). -/
def Obligations.ServiceOnPlainStack : Prop :=
  ∀ (s : State) (l : Line), s.ime = true → s.nextRequest = some l → Memory.wf s.mem = true →
    s.plainAt (s.sp - 1#16) = true → s.plainAt (s.sp - 2#16) = true →
    ∃ t, pollInterrupts s = .next t ∧
      t = { s with
        ifReg := t.ifReg, ime := false, imeScheduled := false, mode := .running, sp := s.sp - 2#16, mem := t.mem
        pc := lineVector l, cycles := s.cycles + s.config.intServiceCycles } ∧
      (∀ l', t.ifReg.getLsbD (lineIndex l') = (if l' = l then false else s.ifReg.getLsbD (lineIndex l'))) ∧
      t.peek (s.sp - 1#16) = s.pc.extractLsb' 8 8 ∧ t.peek (s.sp - 2#16) = s.pc.extractLsb' 0 8 ∧
      s.sameBytesBut t [s.sp - 1#16, s.sp - 2#16]

/-- 30_encoding.md R90 and R88: a halted step is the promotion, the idle cost and the poll, with no access of memory; a
running one promotes, runs an instruction and polls. -/
def Obligations.PhasesOfAStep : Prop :=
  ∀ s : State,
    (s.mode = .halted →
      cpuStep s = pollInterrupts { s.promoteEI with cycles := s.config.haltIdleCycles }) ∧
    (s.mode = .running → cpuStep s = andThen (fetchDecodeExecute s.promoteEI) pollInterrupts) ∧
    (s.imeScheduled = true → s.promoteEI = { s with ime := true, imeScheduled := false }) ∧
    (s.imeScheduled = false → s.promoteEI = s) ∧
    (s.faulted = false → step s = andThen (cpuStep s) peripheralPhase)

/-- A quiescent halt lasts: without devices each step returns the idle cost and changes nothing; with a line enabled and
requested a step that completes has left the halt (60_exceptions.md R239, R225). -/
def Obligations.QuiescentHalt : Prop :=
  ∀ s : State, s.Inv →
    (s.quiescent → step s = .next { s with cycles := s.config.haltIdleCycles }) ∧
    (s.mode = .halted → s.devices = [] → s.config.haltWake = .enabledAndRequested → s.ieReg &&& s.ifReg ≠ 0#5 →
      ∀ t, step s = .next t → t.mode = .running)

/-- The delay of EI (70_reset_and_hazards.md R245, 45_system.md R203): after `EI` its own poll takes nothing; `EI; DI`
never takes an interrupt; after `EI; NOP` the pending line is taken. -/
def Obligations.EiDelay : Prop :=
  ∀ s : State, s.faulted = false → s.mode = .running → s.imeScheduled = false → s.ime = false → s.devices = [] →
    s.config.eiDelayed = true → s.plainAt s.pc = true → s.plainAt (s.pc + 1#16) = true → s.peek s.pc = 0xFB#8 →
    ∃ t, step s = .next t ∧ t = { s with pc := s.pc + 1#16, imeScheduled := true, cycles := 4 } ∧
      (s.peek (s.pc + 1#16) = 0xF3#8 → step t = .next { s with pc := s.pc + 2#16, cycles := 4 }) ∧
      ∀ l : Line, s.peek (s.pc + 1#16) = 0x00#8 → s.nextRequest = some l → Memory.wf s.mem = true →
        s.plainAt (s.sp - 1#16) = true → s.plainAt (s.sp - 2#16) = true →
        ∃ u, step t = .next u ∧ u.pc = lineVector l ∧ u.ime = false ∧ u.imeScheduled = false ∧ u.sp = s.sp - 2#16 ∧
          u.peek (s.sp - 1#16) = (s.pc + 2#16).extractLsb' 8 8 ∧ u.peek (s.sp - 2#16) = (s.pc + 2#16).extractLsb' 0 8 ∧
          u.cycles = 4 + s.config.intServiceCycles

/-! ## The step -/

/-- When the bytes the step reads at `pc` decode to `i`, the step is `exec` of `i` at the address after it, then the poll,
then the peripheral phase (30_encoding.md R88, R91-R94; 60_exceptions.md R235). -/
def Obligations.StepRunsDecodedInstruction : Prop :=
  ∀ (s t : State) (i : Instr) (bytes : List Byte), s.faulted = false → s.mode = .running →
    readBytes bytes.length s.pc s.promoteEI = .next (bytes, t) → decode bytes = .ok (i, []) →
    step s = andThen (andThen (exec i { t with pc := s.pc + BitVec.ofNat 16 bytes.length }) pollInterrupts)
      peripheralPhase

/-- The same where the bytes of a well-formed instruction stand in plain memory at `pc`, the addresses wrapping. -/
def Obligations.StepRunsStoredInstruction : Prop :=
  ∀ (s : State) (i : Instr), s.faulted = false → s.mode = .running → i.wellFormed = true →
    (∀ k : Nat, k < (encode i).length → s.plainAt (s.pc + BitVec.ofNat 16 k) = true ∧
      (encode i)[k]? = some (s.peek (s.pc + BitVec.ofNat 16 k))) →
    step s = andThen
      (andThen (exec i { s.promoteEI with pc := s.pc + BitVec.ofNat 16 (encode i).length }) pollInterrupts)
      peripheralPhase

/-- A fault ends the step: that of the first fetch read, that of a later one, an undefined byte, that of the instruction; so
does the refusal of an instruction. No poll and no peripheral phase follow (30_encoding.md R91, 60_exceptions.md R206, R208,
R211, 45_system.md R201). The state a fault of the fetch leaves keeps the promotion of a delayed EI, IME 1 and
ime_scheduled 0: that is the model's reading, log entry 9 (DEDUCED). -/
def Obligations.FaultEndsStep : Prop :=
  ∀ s : State, s.faulted = false → s.mode = .running →
    (∀ r, read8 s.pc s.promoteEI = .fault r → step s = .fault r) ∧
    (∀ b t len r, read8 s.pc s.promoteEI = .next (b, t) → lengthFromByte b = some len →
      readBytes (len - 1) (s.pc + 1#16) t = .fault r → step s = .fault r) ∧
    (∀ b t, read8 s.pc s.promoteEI = .next (b, t) → b ∈ undefinedBytes →
      step s = .fault (.decodeFailure s.pc false b { t with faulted := true }) ∧
        t.pc = s.pc ∧ t.ime = (s.ime || s.imeScheduled) ∧ t.imeScheduled = false) ∧
    ∀ i t, fetch s.promoteEI = .next (i, t) →
      (∀ r, exec i t = .fault r → step s = .fault r) ∧ ∀ r, exec i t = .refused r → step s = .refused r

/-- A fault is recorded, and nothing follows it (10_state.md R33); of a state that has not faulted it is one of the two
faults, with its code (60_exceptions.md R205, 92_eei_decisions.md D28); a step is refused only by STOP (00_scope.md R12).
After a fault or a refusal the host may only reset or stop, and but for the reset, the post-boot load and the step it
changes no register, engine state or memory (R238). That the step of a faulted state answers a fault, by the name
stuckAfterFault, is the model's choice (log entry 10); that a move not allowed answers afterFault is too (log entry 17). -/
def Obligations.FaultsAreFinal : Prop :=
  (∀ s : State, s.faulted = true → step s = .fault (.stuckAfterFault s)) ∧
  (∀ (s : State) (r : Fault), step s = .fault r → r.final.faulted = true) ∧
  (∀ (s : State) (r : Fault), s.faulted = false → step s = .fault r →
    (r.code = some 1 ∧ ∃ pc0 b t, r = .decodeFailure pc0 false b t) ∨
    (r.code = some 2 ∧ ∃ a kind v handle t, r = .illegalBusAccess a kind v handle t)) ∧
  (∀ (s : State) (r : Refusal), step s = .refused r →
    ∃ pc0 t, r = .stop pc0 t ∧ t.faulted = true ∧ s.config.stopMode = .refuse) ∧
  (∀ (s : State) (m : HostMove), s.faulted = true →
    hostMove m s = (if m = .reset then .ok (.nothing, resetConsole s) else if m = .stop then .ok (.nothing, s)
      else .error .afterFault)) ∧
  ∀ (s t : State) (m : HostMove) (answer : HostAnswer), hostMove m s = .ok (answer, t) →
    m ≠ .reset → m ≠ .loadPostBoot → m ≠ .step →
    s.sameCpu t ∧ t.mem = s.mem ∧ t.ieReg = s.ieReg ∧ t.devices = s.devices ∧ t.config = s.config

/-- With no device and STOP a no-op, a step completes unless it fetches an undefined byte (60_exceptions.md R205-R207,
R210). The state of that decode failure keeps the promotion of a delayed EI: the model's reading, log entry 9 (DEDUCED). -/
def Obligations.StepCompletesOrDecodeFails : Prop :=
  ∀ s : State, s.faulted = false → s.busIsSafe = true → s.devices = [] → s.config.stopMode = .nop →
    (∃ t, step s = .next t) ∨
    ∃ b t, s.mode = .running ∧ read8 s.pc s.promoteEI = .next (b, t) ∧ b ∈ undefinedBytes ∧
      step s = .fault (.decodeFailure s.pc false b { t with faulted := true })

/-- Every step keeps the invariant. -/
def Obligations.StepKeepsInvariant : Prop :=
  ∀ s t : State, s.Inv → step s = .next t → t.Inv

/-- No step changes the registry, the handle counter, the parameters or the devices' kinds (20_memory.md R43,
10_state.md R36). -/
def Obligations.StepKeepsSetup : Prop :=
  ∀ s t : State, step s = .next t →
    s.sameSetup t ∧ t.devices.map Device.kind = s.devices.map Device.kind ∧ t.faulted = false

/-- While the controller is registered first no step writes the backing bytes at 0xFF0F and 0xFFFF (60_exceptions.md
R214, R215). -/
def Obligations.ControllerBytesNeverWritten : Prop :=
  ∀ s t : State, s.Inv → step s = .next t → t.peek 0xFF0F#16 = s.peek 0xFF0F#16 ∧ t.peek 0xFFFF#16 = s.peek 0xFFFF#16

/-- The peripheral phase (60_exceptions.md R235, R236): every device with a `Step` is stepped once, by the count of the CPU
step, kind by kind in the order cartridge, DMA, pixel pipeline, timer, serial; with no device, nothing. Devices of one kind
in list order, and the form of a `Step`, are the model's choice (log entry 16). -/
def Obligations.PeripheralOrder : Prop :=
  steppedKinds = [.cartridge, .dma, .pixelPipeline, .timer, .serial] ∧
  (∀ (i n : Nat) (s : State) (d : Device), s.devices[i]? = some d →
    stepDevice n i s = runActions (Config.deviceStepBegin i d.st n).1 i
      (s.setDeviceState i (Config.deviceStepBegin i d.st n).2)) ∧
  ∀ s : State,
    peripheralPhase s = s.stepOrder.foldl (fun o i => andThen o (stepDevice s.cycles i)) (.next s) ∧
    (let ofKind := fun k => (List.range s.devices.length).filter fun i =>
        decide ((s.devices[i]?).map Device.kind = some k)
     peripheralPhase s =
      andThen (stepDevices (ofKind .cartridge) s.cycles s) fun s1 =>
      andThen (stepDevices (ofKind .dma) s.cycles s1) fun s2 =>
      andThen (stepDevices (ofKind .pixelPipeline) s.cycles s2) fun s3 =>
      andThen (stepDevices (ofKind .timer) s.cycles s3) fun s4 => stepDevices (ofKind .serial) s.cycles s4) ∧
    (∀ i, i ∈ s.stepOrder ↔ ∃ d, s.devices[i]? = some d ∧ d.kind ∈ steppedKinds) ∧ s.stepOrder.Nodup ∧
    s.stepOrder.Pairwise (fun i j => s.stepRank i ≤ s.stepRank j) ∧
    (s.devices = [] → peripheralPhase s = .next s)

/-! ## Whole-machine rules over all instructions -/

/-- Every instruction answers a next state, whatever the registers, flags and memory hold, where no handler can abort and
STOP is a no-op (60_exceptions.md R210). -/
def Obligations.EveryInstructionCompletes : Prop :=
  ∀ (i : Instr) (s : State), s.busIsSafe = true → s.config.stopMode = .nop → ∃ t, exec i s = .next t

/-- The flag annotation of the ROM (10_state.md R20) holds of every instruction, and its cost is a declared one
(30_encoding.md R95). -/
def Obligations.RomAnnotationsHold : Prop :=
  ∀ (i : Instr) (s t : State), exec i s = .next t →
    ∃ op, i.opcode = some op ∧ noteAllows op.flags s.f t.f ∧ t.cycles ∈ op.cycles

/-- Only a transfer writes `pc` (10_state.md R24), only DI, EI and RETI write IME or the delayed EI (R25, R26), only HALT
writes the mode (R27), and none changes the registry, the parameters or the record of a fault. -/
def Obligations.OnlyControlWritesEngineState : Prop :=
  ∀ (i : Instr) (s t : State), exec i s = .next t →
    (i.transfers = false → t.pc = s.pc) ∧
    (i.controlsInterrupts = false → t.ime = s.ime ∧ t.imeScheduled = s.imeScheduled) ∧
    (i ≠ .halt → t.mode = s.mode) ∧ s.sameSetup t ∧ t.faulted = s.faulted

/-- Memory changes only at the addresses the instruction computes; IE and IF only when one of those is theirs. -/
def Obligations.StoresOnlyWhereComputed : Prop :=
  ∀ (i : Instr) (s t : State), exec i s = .next t →
    s.sameBytesBut t (i.storeAddresses s) ∧
    (0xFFFF#16 ∉ i.storeAddresses s → t.ieReg = s.ieReg) ∧ (0xFF0F#16 ∉ i.storeAddresses s → t.ifReg = s.ifReg)

/-- A fault inside an instruction is a bus fault that leaves `pc` at `pc_next`, the registers, the flags and the engine as
they were, and `sp` too unless the instruction pushes or pops (60_exceptions.md R208). -/
def Obligations.InstructionFaultEffects : Prop :=
  ∀ (i : Instr) (s : State) (r : Fault), exec i s = .fault r →
    ∃ a kind v handle t, r = .illegalBusAccess a kind v handle { t with faulted := true } ∧
      s.sameCpu { t with sp := s.sp } ∧ s.sameSetup t ∧ (i.usesStack = false → t.sp = s.sp) ∧
      (i.usesStack = true → t.sp ∈ [s.sp - 1#16, s.sp - 2#16, s.sp, s.sp + 1#16])

/-! ## Loads, stores and stack transfers -/

/-- 40_load.md R96 and R97. -/
def Obligations.LoadRegister : Prop :=
  ∀ (dst : Reg8) (s : State),
    (∀ src : Reg8, encode (Instr.ldRR dst src) = [0b01#2 ++ dst.code ++ src.code] ∧
      exec (Instr.ldRR dst src) s = .next { s.setR dst (s.getR src) with cycles := 4 }) ∧
    ∀ n : Byte, encode (Instr.ldRN dst n) = [0b00#2 ++ dst.code ++ 0b110#3, n] ∧
      exec (Instr.ldRN dst n) s = .next { s.setR dst n with cycles := 8 }

/-- 40_load.md R98, R101, R102, R105, R107 and R109: the byte read, and the fault of the read. -/
def Obligations.LoadByte : Prop :=
  ∀ s : State,
    (∀ dst : Reg8, encode (Instr.ldRM dst) = [0b01#2 ++ dst.code ++ 0b110#3] ∧
      Follows (read8 s.hl s) (exec (Instr.ldRM dst) s) fun v => { v.2.setR dst v.1 with cycles := 8 }) ∧
    encode .ld_a_mBC = [0x0A#8] ∧
    Follows (read8 s.bc s) (exec .ld_a_mBC s) (fun v => { v.2 with rA := v.1, cycles := 8 }) ∧
    encode .ld_a_mDE = [0x1A#8] ∧
    Follows (read8 s.de s) (exec .ld_a_mDE s) (fun v => { v.2 with rA := v.1, cycles := 8 }) ∧
    (∀ a : Word, encode (.ld_a_mA16 a) = [0xFA#8, a.extractLsb' 0 8, a.extractLsb' 8 8] ∧
      Follows (read8 a s) (exec (.ld_a_mA16 a) s) fun v => { v.2 with rA := v.1, cycles := 16 }) ∧
    (∀ a : Byte, encode (.ldh_a_mA8 a) = [0xF0#8, a] ∧
      Follows (read8 (0xFF#8 ++ a) s) (exec (.ldh_a_mA8 a) s) fun v => { v.2 with rA := v.1, cycles := 12 }) ∧
    encode .ld_a_mC = [0xF2#8] ∧
    Follows (read8 (0xFF#8 ++ s.rC) s) (exec .ld_a_mC s) fun v => { v.2 with rA := v.1, cycles := 8 }

/-- 40_load.md R99, R100, R103, R104, R106, R108 and R110: the write made, and the fault of the write. -/
def Obligations.StoreByte : Prop :=
  ∀ s : State,
    (∀ src : Reg8, encode (Instr.ldMR src) = [0b01110#5 ++ src.code] ∧
      Follows (write8 s.hl (s.getR src) s) (exec (Instr.ldMR src) s) fun t => { t with cycles := 8 }) ∧
    (∀ n : Byte, encode (.ld_mHL_n8 n) = [0x36#8, n] ∧
      Follows (write8 s.hl n s) (exec (.ld_mHL_n8 n) s) fun t => { t with cycles := 12 }) ∧
    encode .ld_mBC_a = [0x02#8] ∧
    Follows (write8 s.bc s.rA s) (exec .ld_mBC_a s) (fun t => { t with cycles := 8 }) ∧
    encode .ld_mDE_a = [0x12#8] ∧
    Follows (write8 s.de s.rA s) (exec .ld_mDE_a s) (fun t => { t with cycles := 8 }) ∧
    (∀ a : Word, encode (.ld_mA16_a a) = [0xEA#8, a.extractLsb' 0 8, a.extractLsb' 8 8] ∧
      Follows (write8 a s.rA s) (exec (.ld_mA16_a a) s) fun t => { t with cycles := 16 }) ∧
    (∀ a : Byte, encode (.ldh_mA8_a a) = [0xE0#8, a] ∧
      Follows (write8 (0xFF#8 ++ a) s.rA s) (exec (.ldh_mA8_a a) s) fun t => { t with cycles := 12 }) ∧
    encode .ld_mC_a = [0xE2#8] ∧
    Follows (write8 (0xFF#8 ++ s.rC) s.rA s) (exec .ld_mC_a s) fun t => { t with cycles := 8 }

/-- 40_load.md R111-R114: HL moves after the access, and not when it faults. -/
def Obligations.LoadStoreMoveHL : Prop :=
  ∀ s : State,
    encode .ld_a_mHLinc = [0x2A#8] ∧ encode .ld_a_mHLdec = [0x3A#8] ∧ encode .ld_mHLinc_a = [0x22#8] ∧
    encode .ld_mHLdec_a = [0x32#8] ∧
    Follows (read8 s.hl s) (exec .ld_a_mHLinc s)
      (fun v => { v.2.setPair .hl (s.hl + 1#16) with rA := v.1, cycles := 8 }) ∧
    Follows (read8 s.hl s) (exec .ld_a_mHLdec s)
      (fun v => { v.2.setPair .hl (s.hl - 1#16) with rA := v.1, cycles := 8 }) ∧
    Follows (write8 s.hl s.rA s) (exec .ld_mHLinc_a s)
      (fun t => { t.setPair .hl (s.hl + 1#16) with cycles := 8 }) ∧
    Follows (write8 s.hl s.rA s) (exec .ld_mHLdec_a s)
      (fun t => { t.setPair .hl (s.hl - 1#16) with cycles := 8 })

/-- 40_load.md R115-R117. -/
def Obligations.LoadWord : Prop :=
  ∀ s : State,
    (∀ (p : Pair) (n : Word),
      encode (Instr.ldPairN p n) = [0b00#2 ++ p.code ++ 0b0001#4, n.extractLsb' 0 8, n.extractLsb' 8 8] ∧
      exec (Instr.ldPairN p n) s = .next { s.setPair p n with cycles := 12 }) ∧
    (∀ a : Word, encode (.ld_mA16_sp a) = [0x08#8, a.extractLsb' 0 8, a.extractLsb' 8 8] ∧
      FollowsTwo (write8 a (s.sp.extractLsb' 0 8) s) (fun s1 => write8 (a + 1#16) (s.sp.extractLsb' 8 8) s1)
        (exec (.ld_mA16_sp a) s) fun _ t => { t with cycles := 20 }) ∧
    encode .ld_sp_hl = [0xF9#8] ∧ exec .ld_sp_hl s = .next { s with sp := s.hl, cycles := 8 }

/-- 40_load.md R118-R120. -/
def Obligations.PushAndPop : Prop :=
  ∀ s : State,
    (∀ p : StackPair, encode (Instr.push p) = [0b11#2 ++ p.code ++ 0b0101#4] ∧
      Follows (push16 (s.getStackPair p) s) (exec (Instr.push p) s) fun t => { t with cycles := 16 }) ∧
    (∀ p : StackPair, encode (Instr.pop p) = [0b11#2 ++ p.code ++ 0b0001#4]) ∧
    Follows (pop16 s) (exec .pop_bc s)
      (fun v => { v.2 with rB := v.1.extractLsb' 8 8, rC := v.1.extractLsb' 0 8, cycles := 12 }) ∧
    Follows (pop16 s) (exec .pop_de s)
      (fun v => { v.2 with rD := v.1.extractLsb' 8 8, rE := v.1.extractLsb' 0 8, cycles := 12 }) ∧
    Follows (pop16 s) (exec .pop_hl s)
      (fun v => { v.2 with rH := v.1.extractLsb' 8 8, rL := v.1.extractLsb' 0 8, cycles := 12 }) ∧
    Follows (pop16 s) (exec .pop_af s)
      (fun v => { v.2 with
        rA := v.1.extractLsb' 8 8
        f := { z := v.1.getLsbD 7, n := v.1.getLsbD 6, h := v.1.getLsbD 5, c := v.1.getLsbD 4 }
        cycles := 12 }) ∧
    s.af.extractLsb' 0 4 = 0#4

/-! ## 8-bit arithmetic and logic -/

/-- 41_alu8.md R121, R122 and 42_alu16.md R155, on the numbers, with the source's law of the carry. -/
def Obligations.SumsAndTheirFlags : Prop :=
  (∀ (a b : Byte) (cin : Bool),
    (add8 a b cin).res.toNat = (a.toNat + b.toNat + cin.toNat) % 256 ∧
    ((add8 a b cin).z = true ↔ (add8 a b cin).res = 0#8) ∧
    ((add8 a b cin).h = true ↔ a.toNat % 16 + b.toNat % 16 + cin.toNat > 15) ∧
    ((add8 a b cin).c = true ↔ a.toNat + b.toNat + cin.toNat > 255) ∧
    (cin = false → ((add8 a b cin).c = true ↔ (add8 a b cin).res < a))) ∧
  (∀ (a b : Byte) (bin : Bool),
    ((sub8 a b bin).res.toNat : Int) = ((a.toNat : Int) - b.toNat - bin.toNat) % 256 ∧
    ((sub8 a b bin).z = true ↔ (sub8 a b bin).res = 0#8) ∧
    ((sub8 a b bin).h = true ↔ a.toNat % 16 < b.toNat % 16 + bin.toNat) ∧
    ((sub8 a b bin).c = true ↔ a.toNat < b.toNat + bin.toNat)) ∧
  ∀ a b : Word,
    (add16 a b).res.toNat = (a.toNat + b.toNat) % 65536 ∧
    ((add16 a b).h = true ↔ a.toNat % 4096 + b.toNat % 4096 > 4095) ∧
    ((add16 a b).c = true ↔ a.toNat + b.toNat > 65535)

/-- 41_alu8.md R123-R134: ADD, ADC, SUB and SBC on a register, the byte at HL and the immediate. -/
def Obligations.AddAndSubtract : Prop :=
  ∀ (s : State) (withCarry : Bool),
    let cin := withCarry && s.f.c
    let plus := if withCarry then Alu.adc else Alu.add
    let minus := if withCarry then Alu.sbc else Alu.sub
    let added := fun (t : State) (v : Byte) (cost : Nat) =>
      let o := add8 s.rA v cin
      { t with rA := o.res, f := { z := o.z, n := false, h := o.h, c := o.c }, cycles := cost }
    let subtracted := fun (t : State) (v : Byte) (cost : Nat) =>
      let o := sub8 s.rA v cin
      { t with rA := o.res, f := { z := o.z, n := true, h := o.h, c := o.c }, cycles := cost }
    (∀ r : Reg8, encode (Instr.aluR plus r) = [0b1000#4 ++ BitVec.ofBool withCarry ++ r.code] ∧
      encode (Instr.aluR minus r) = [0b1001#4 ++ BitVec.ofBool withCarry ++ r.code] ∧
      exec (Instr.aluR plus r) s = .next (added s (s.getR r) 4) ∧
      exec (Instr.aluR minus r) s = .next (subtracted s (s.getR r) 4)) ∧
    encode (Instr.aluM plus) = [0b1000#4 ++ BitVec.ofBool withCarry ++ 0b110#3] ∧
    encode (Instr.aluM minus) = [0b1001#4 ++ BitVec.ofBool withCarry ++ 0b110#3] ∧
    Follows (read8 s.hl s) (exec (Instr.aluM plus) s) (fun v => added v.2 v.1 8) ∧
    Follows (read8 s.hl s) (exec (Instr.aluM minus) s) (fun v => subtracted v.2 v.1 8) ∧
    ∀ n : Byte, encode (Instr.aluN plus n) = [0b1100#4 ++ BitVec.ofBool withCarry ++ 0b110#3, n] ∧
      encode (Instr.aluN minus n) = [0b1101#4 ++ BitVec.ofBool withCarry ++ 0b110#3, n] ∧
      exec (Instr.aluN plus n) s = .next (added s n 8) ∧ exec (Instr.aluN minus n) s = .next (subtracted s n 8)

/-- 41_alu8.md R135-R146: AND, XOR, OR and CP on a register, the byte at HL and the immediate. -/
def Obligations.LogicAndCompare : Prop :=
  ∀ s : State,
    let logic := fun (t : State) (res : Byte) (half : Bool) (cost : Nat) =>
      { t with rA := res, f := { z := decide (res = 0#8), n := false, h := half, c := false }, cycles := cost }
    let compared := fun (t : State) (v : Byte) (cost : Nat) =>
      let o := sub8 s.rA v false
      { t with f := { z := o.z, n := true, h := o.h, c := o.c }, cycles := cost }
    (∀ r : Reg8, encode (Instr.aluR .and r) = [0b10100#5 ++ r.code] ∧ encode (Instr.aluR .xor r) = [0b10101#5 ++ r.code] ∧
      encode (Instr.aluR .or r) = [0b10110#5 ++ r.code] ∧ encode (Instr.aluR .cp r) = [0b10111#5 ++ r.code] ∧
      exec (Instr.aluR .and r) s = .next (logic s (s.rA &&& s.getR r) true 4) ∧
      exec (Instr.aluR .xor r) s = .next (logic s (s.rA ^^^ s.getR r) false 4) ∧
      exec (Instr.aluR .or r) s = .next (logic s (s.rA ||| s.getR r) false 4) ∧
      exec (Instr.aluR .cp r) s = .next (compared s (s.getR r) 4)) ∧
    encode (Instr.aluM .and) = [0xA6#8] ∧ encode (Instr.aluM .xor) = [0xAE#8] ∧ encode (Instr.aluM .or) = [0xB6#8] ∧
    encode (Instr.aluM .cp) = [0xBE#8] ∧
    Follows (read8 s.hl s) (exec (Instr.aluM .and) s) (fun v => logic v.2 (s.rA &&& v.1) true 8) ∧
    Follows (read8 s.hl s) (exec (Instr.aluM .xor) s) (fun v => logic v.2 (s.rA ^^^ v.1) false 8) ∧
    Follows (read8 s.hl s) (exec (Instr.aluM .or) s) (fun v => logic v.2 (s.rA ||| v.1) false 8) ∧
    Follows (read8 s.hl s) (exec (Instr.aluM .cp) s) (fun v => compared v.2 v.1 8) ∧
    ∀ n : Byte, encode (Instr.aluN .and n) = [0xE6#8, n] ∧ encode (Instr.aluN .xor n) = [0xEE#8, n] ∧
      encode (Instr.aluN .or n) = [0xF6#8, n] ∧ encode (Instr.aluN .cp n) = [0xFE#8, n] ∧
      exec (Instr.aluN .and n) s = .next (logic s (s.rA &&& n) true 8) ∧
      exec (Instr.aluN .xor n) s = .next (logic s (s.rA ^^^ n) false 8) ∧
      exec (Instr.aluN .or n) s = .next (logic s (s.rA ||| n) false 8) ∧
      exec (Instr.aluN .cp n) s = .next (compared s n 8)

/-- 41_alu8.md R147-R150: the flags of the memory forms are written only after the write. -/
def Obligations.IncrementAndDecrement : Prop :=
  ∀ s : State,
    let up := fun (t : State) (v : Byte) (cost : Nat) =>
      { t with f := { z := decide (v + 1#8 = 0#8), n := false, h := decide (v.extractLsb' 0 4 = 0xF#4), c := s.f.c }
               cycles := cost }
    let down := fun (t : State) (v : Byte) (cost : Nat) =>
      { t with f := { z := decide (v - 1#8 = 0#8), n := true, h := decide (v.extractLsb' 0 4 = 0x0#4), c := s.f.c }
               cycles := cost }
    (∀ r : Reg8, encode (Instr.incR r) = [0b00#2 ++ r.code ++ 0b100#3] ∧
      encode (Instr.decR r) = [0b00#2 ++ r.code ++ 0b101#3] ∧
      exec (Instr.incR r) s = .next (up (s.setR r (s.getR r + 1#8)) (s.getR r) 4) ∧
      exec (Instr.decR r) s = .next (down (s.setR r (s.getR r - 1#8)) (s.getR r) 4)) ∧
    encode .inc_mHL = [0x34#8] ∧ encode .dec_mHL = [0x35#8] ∧
    FollowsTwo (read8 s.hl s) (fun v => write8 s.hl (v.1 + 1#8) v.2) (exec .inc_mHL s) (fun v t => up t v.1 12) ∧
    FollowsTwo (read8 s.hl s) (fun v => write8 s.hl (v.1 - 1#8) v.2) (exec .dec_mHL s) (fun v t => down t v.1 12)

/-- 41_alu8.md R151-R154. -/
def Obligations.AccumulatorAdjustments : Prop :=
  ∀ s : State,
    encode .daa = [0x27#8] ∧ encode .cpl = [0x2F#8] ∧ encode .scf = [0x37#8] ∧ encode .ccf = [0x3F#8] ∧
    (s.f.n = false →
      let high := decide (s.f.c = true ∨ s.rA.toNat > 0x99)
      let low := decide (s.f.h = true ∨ s.rA.toNat % 16 > 9)
      let a := s.rA + (if high then 0x60#8 else 0x00#8) + (if low then 0x06#8 else 0x00#8)
      exec .daa s = .next { s with
        rA := a, f := { z := decide (a = 0#8), n := false, h := false, c := high }, cycles := 4 }) ∧
    (s.f.n = true →
      let a := s.rA - (if s.f.c then 0x60#8 else 0x00#8) - (if s.f.h then 0x06#8 else 0x00#8)
      exec .daa s = .next { s with
        rA := a, f := { z := decide (a = 0#8), n := true, h := false, c := s.f.c }, cycles := 4 }) ∧
    exec .cpl s = .next { s with rA := ~~~s.rA, f := { z := s.f.z, n := true, h := true, c := s.f.c }, cycles := 4 } ∧
    exec .scf s = .next { s with f := { z := s.f.z, n := false, h := false, c := true }, cycles := 4 } ∧
    exec .ccf s = .next { s with f := { z := s.f.z, n := false, h := false, c := !s.f.c }, cycles := 4 }

/-! ## 16-bit arithmetic -/

/-- 42_alu16.md R156-R160. -/
def Obligations.SixteenBitArithmetic : Prop :=
  ∀ s : State,
    (∀ p : Pair,
      encode (Instr.addHL p) = [0b00#2 ++ p.code ++ 0b1001#4] ∧ encode (Instr.incPair p) = [0b00#2 ++ p.code ++ 0b0011#4] ∧
      encode (Instr.decPair p) = [0b00#2 ++ p.code ++ 0b1011#4] ∧
      (let o := add16 s.hl (s.getPair p)
       exec (Instr.addHL p) s = .next { s.setPair .hl o.res with
         f := { z := s.f.z, n := false, h := o.h, c := o.c }, cycles := 8 }) ∧
      exec (Instr.incPair p) s = .next { s.setPair p (s.getPair p + 1#16) with cycles := 8 } ∧
      exec (Instr.decPair p) s = .next { s.setPair p (s.getPair p - 1#16) with cycles := 8 }) ∧
    ∀ e : Byte,
      let flags : Flags :=
        { z := false, n := false, h := decide (s.sp.toNat % 16 + e.toNat % 16 > 15)
          c := decide (s.sp.toNat % 256 + e.toNat > 255) }
      encode (.add_sp_e8 e) = [0xE8#8, e] ∧ encode (.ld_hl_spE8 e) = [0xF8#8, e] ∧
      exec (.add_sp_e8 e) s = .next { s with sp := s.sp + e.signExtend 16, f := flags, cycles := 16 } ∧
      exec (.ld_hl_spE8 e) s = .next { s.setPair .hl (s.sp + e.signExtend 16) with f := flags, cycles := 12 }

/-! ## Rotates, shifts, bits -/

/-- 43_rotate_shift_bit.md R161-R164: Z is cleared whatever the result. -/
def Obligations.AccumulatorRotates : Prop :=
  ∀ s : State,
    let rotatedTo := fun (a : Byte) (c : Bool) =>
      { s with rA := a, f := { z := false, n := false, h := false, c := c }, cycles := 4 }
    encode .rlca = [0x07#8] ∧ encode .rrca = [0x0F#8] ∧ encode .rla = [0x17#8] ∧ encode .rra = [0x1F#8] ∧
    exec .rlca s = .next (rotatedTo (s.rA.extractLsb' 0 7 ++ s.rA.extractLsb' 7 1) (s.rA.getLsbD 7)) ∧
    exec .rrca s = .next (rotatedTo (s.rA.extractLsb' 0 1 ++ s.rA.extractLsb' 1 7) (s.rA.getLsbD 0)) ∧
    exec .rla s = .next (rotatedTo (s.rA.extractLsb' 0 7 ++ BitVec.ofBool s.f.c) (s.rA.getLsbD 7)) ∧
    exec .rra s = .next (rotatedTo (BitVec.ofBool s.f.c ++ s.rA.extractLsb' 1 7) (s.rA.getLsbD 0))

/-- 43_rotate_shift_bit.md R166, R168, R170, R172, R174, R176, R178 and R180. -/
def Obligations.PrefixedRotatesOfRegisters : Prop :=
  ∀ (op : Rot) (r : Reg8) (s : State),
    let o := rotated op (s.getR r) s.f.c
    encode (Instr.rotR op r) = [0xCB#8, 0b00#2 ++ op.code ++ r.code] ∧
    exec (Instr.rotR op r) s = .next { s.setR r o.1 with
      f := { z := decide (o.1 = 0#8), n := false, h := false, c := o.2 }, cycles := 8 }

/-- 43_rotate_shift_bit.md R167, R169, R171, R173, R175, R177, R179 and R181: one read, one write, then the flags. -/
def Obligations.PrefixedRotatesOfMemory : Prop :=
  ∀ (op : Rot) (s : State),
    encode (Instr.rotM op) = [0xCB#8, 0b00#2 ++ op.code ++ 0b110#3] ∧
    FollowsTwo (read8 s.hl s) (fun v => write8 s.hl (rotated op v.1 s.f.c).1 v.2) (exec (Instr.rotM op) s)
      fun v t =>
        let o := rotated op v.1 s.f.c
        { t with f := { z := decide (o.1 = 0#8), n := false, h := false, c := o.2 }, cycles := 16 }

/-- 43_rotate_shift_bit.md R182-R187: the write of RES and SET is made whatever the byte. -/
def Obligations.BitInstructions : Prop :=
  ∀ (b : Fin 8) (s : State),
    let tested := fun (t : State) (v : Byte) (cost : Nat) =>
      { t with f := { z := !v.getLsbD b.val, n := false, h := true, c := s.f.c }, cycles := cost }
    let cleared := fun (v : Byte) => v &&& ~~~(1#8 <<< b.val)
    let raised := fun (v : Byte) => v ||| (1#8 <<< b.val)
    (∀ r : Reg8,
      encode (Instr.bitR b r) = [0xCB#8, 0b01#2 ++ BitVec.ofNat 3 b.val ++ r.code] ∧
      encode (Instr.resR b r) = [0xCB#8, 0b10#2 ++ BitVec.ofNat 3 b.val ++ r.code] ∧
      encode (Instr.setR b r) = [0xCB#8, 0b11#2 ++ BitVec.ofNat 3 b.val ++ r.code] ∧
      exec (Instr.bitR b r) s = .next (tested s (s.getR r) 8) ∧
      exec (Instr.resR b r) s = .next { s.setR r (cleared (s.getR r)) with cycles := 8 } ∧
      exec (Instr.setR b r) s = .next { s.setR r (raised (s.getR r)) with cycles := 8 }) ∧
    encode (Instr.bitM b) = [0xCB#8, 0b01#2 ++ BitVec.ofNat 3 b.val ++ 0b110#3] ∧
    encode (Instr.resM b) = [0xCB#8, 0b10#2 ++ BitVec.ofNat 3 b.val ++ 0b110#3] ∧
    encode (Instr.setM b) = [0xCB#8, 0b11#2 ++ BitVec.ofNat 3 b.val ++ 0b110#3] ∧
    Follows (read8 s.hl s) (exec (Instr.bitM b) s) (fun v => tested v.2 v.1 12) ∧
    FollowsTwo (read8 s.hl s) (fun v => write8 s.hl (cleared v.1) v.2) (exec (Instr.resM b) s)
      (fun _ t => { t with cycles := 16 }) ∧
    FollowsTwo (read8 s.hl s) (fun v => write8 s.hl (raised v.1) v.2) (exec (Instr.setM b) s)
      (fun _ t => { t with cycles := 16 })

/-! ## Control transfer -/

/-- 44_control.md R188-R192, with the conditions of 30_encoding.md R71. -/
def Obligations.Jumps : Prop :=
  ∀ s : State,
    (Cond.nz.holds s.f = !s.f.z ∧ Cond.z.holds s.f = s.f.z ∧ Cond.nc.holds s.f = !s.f.c ∧ Cond.c.holds s.f = s.f.c) ∧
    (∀ a : Word, encode (.jp_a16 a) = [0xC3#8, a.extractLsb' 0 8, a.extractLsb' 8 8] ∧
      exec (.jp_a16 a) s = .next { s with pc := a, cycles := 16 }) ∧
    (∀ (cc : Cond) (a : Word),
      encode (Instr.jpIf cc a) = [0b110#3 ++ cc.code ++ 0b010#3, a.extractLsb' 0 8, a.extractLsb' 8 8] ∧
      exec (Instr.jpIf cc a) s =
        .next (if cc.holds s.f then { s with pc := a, cycles := 16 } else { s with cycles := 12 })) ∧
    encode .jp_hl = [0xE9#8] ∧ exec .jp_hl s = .next { s with pc := s.hl, cycles := 4 } ∧
    (∀ e : Byte, encode (.jr_e8 e) = [0x18#8, e] ∧
      exec (.jr_e8 e) s = .next { s with pc := s.pc + e.signExtend 16, cycles := 12 }) ∧
    ∀ (cc : Cond) (e : Byte), encode (Instr.jrIf cc e) = [0b001#3 ++ cc.code ++ 0b000#3, e] ∧
      exec (Instr.jrIf cc e) s =
        .next (if cc.holds s.f then { s with pc := s.pc + e.signExtend 16, cycles := 12 } else { s with cycles := 8 })

/-- 44_control.md R193, R194 and R198. -/
def Obligations.CallsAndRestarts : Prop :=
  ∀ s : State,
    (∀ a : Word, encode (.call_a16 a) = [0xCD#8, a.extractLsb' 0 8, a.extractLsb' 8 8] ∧
      Follows (push16 s.pc s) (exec (.call_a16 a) s) fun t => { t with pc := a, cycles := 24 }) ∧
    (∀ (cc : Cond) (a : Word),
      encode (Instr.callIf cc a) = [0b110#3 ++ cc.code ++ 0b100#3, a.extractLsb' 0 8, a.extractLsb' 8 8] ∧
      (cc.holds s.f = true →
        Follows (push16 s.pc s) (exec (Instr.callIf cc a) s) fun t => { t with pc := a, cycles := 24 }) ∧
      (cc.holds s.f = false → exec (Instr.callIf cc a) s = .next { s with cycles := 12 })) ∧
    ∀ y : Fin 8, encode (Instr.rst y) = [0b11#2 ++ BitVec.ofNat 3 y.val ++ 0b111#3] ∧
      Follows (push16 s.pc s) (exec (Instr.rst y) s) fun t =>
        { t with pc := 8#16 * BitVec.ofNat 16 y.val, cycles := 16 }

/-- 44_control.md R195-R197: RETI sets IME at once, and not when a read faults. -/
def Obligations.Returns : Prop :=
  ∀ s : State,
    encode .ret = [0xC9#8] ∧ encode .reti = [0xD9#8] ∧
    Follows (pop16 s) (exec .ret s) (fun v => { v.2 with pc := v.1, cycles := 16 }) ∧
    (∀ cc : Cond, encode (Instr.retIf cc) = [0b110#3 ++ cc.code ++ 0b000#3] ∧
      (cc.holds s.f = true →
        Follows (pop16 s) (exec (Instr.retIf cc) s) fun v => { v.2 with pc := v.1, cycles := 20 }) ∧
      (cc.holds s.f = false → exec (Instr.retIf cc) s = .next { s with cycles := 8 })) ∧
    Follows (pop16 s) (exec .reti s) fun v =>
      { v.2 with pc := v.1, ime := true, imeScheduled := false, cycles := 16 }

/-! ## System -/

/-- 45_system.md R199-R203, under every value of their parameters. -/
def Obligations.SystemInstructions : Prop :=
  ∀ s : State,
    encode .nop = [0x00#8] ∧ encode .halt = [0x76#8] ∧ encode .di = [0xF3#8] ∧ encode .ei = [0xFB#8] ∧
    exec .nop s = .next { s with cycles := 4 } ∧
    exec .halt s = .next { s with mode := .halted, cycles := 4 } ∧
    exec .di s = .next { s with ime := false, imeScheduled := false, cycles := 4 } ∧
    (s.config.eiDelayed = true → exec .ei s = .next { s with imeScheduled := true, cycles := 4 }) ∧
    (s.config.eiDelayed = false → exec .ei s = .next { s with ime := true, cycles := 4 }) ∧
    ∀ n : Byte, encode (.stop_n8 n) = [0x10#8, n] ∧
      (s.config.stopMode = .nop → exec (.stop_n8 n) s = .next { s with cycles := 4 }) ∧
      (s.config.stopMode = .refuse →
        exec (.stop_n8 n) s = .refused (.stop (s.pc - 2#16) { s with faulted := true }))
end

