-- ==== Sys2Proof/Laws/Forms.lean ====
section
/-! SUPPORT. The instructions by the forms the spec's rules give: one case per form, and the shared operation that is the
meaning of each form. A proof about every instruction cites `Instr.byForm` and has one small goal per form. -/

namespace Sys2Proof

open Machine

/-- What holds of every form holds of every instruction. -/
theorem Instr.byForm {P : Instr → Prop}
    (h_nop : P .nop)
    (h_ldPairN : ∀ (p : Pair) (n : Word), P (Instr.ldPairN p n))
    (h_ld_mBC_a : P .ld_mBC_a)
    (h_incPair : ∀ (p : Pair), P (Instr.incPair p))
    (h_incR : ∀ (r : Reg8), P (Instr.incR r))
    (h_decR : ∀ (r : Reg8), P (Instr.decR r))
    (h_ldRN : ∀ (dst : Reg8) (n : Byte), P (Instr.ldRN dst n))
    (h_rlca : P .rlca)
    (h_ld_mA16_sp : ∀ (a : Word), P (.ld_mA16_sp a))
    (h_addHL : ∀ (p : Pair), P (Instr.addHL p))
    (h_ld_a_mBC : P .ld_a_mBC)
    (h_decPair : ∀ (p : Pair), P (Instr.decPair p))
    (h_rrca : P .rrca)
    (h_stop_n8 : ∀ (n : Byte), P (.stop_n8 n))
    (h_ld_mDE_a : P .ld_mDE_a)
    (h_rla : P .rla)
    (h_jr_e8 : ∀ (e : Byte), P (.jr_e8 e))
    (h_ld_a_mDE : P .ld_a_mDE)
    (h_rra : P .rra)
    (h_jrIf : ∀ (cc : Cond) (e : Byte), P (Instr.jrIf cc e))
    (h_ld_mHLinc_a : P .ld_mHLinc_a)
    (h_daa : P .daa)
    (h_ld_a_mHLinc : P .ld_a_mHLinc)
    (h_cpl : P .cpl)
    (h_ld_mHLdec_a : P .ld_mHLdec_a)
    (h_inc_mHL : P .inc_mHL)
    (h_dec_mHL : P .dec_mHL)
    (h_ld_mHL_n8 : ∀ (n : Byte), P (.ld_mHL_n8 n))
    (h_scf : P .scf)
    (h_ld_a_mHLdec : P .ld_a_mHLdec)
    (h_ccf : P .ccf)
    (h_ldRR : ∀ (dst r : Reg8), P (Instr.ldRR dst r))
    (h_ldRM : ∀ (dst : Reg8), P (Instr.ldRM dst))
    (h_ldMR : ∀ (r : Reg8), P (Instr.ldMR r))
    (h_halt : P .halt)
    (h_aluR : ∀ (op : Alu) (r : Reg8), P (Instr.aluR op r))
    (h_aluM : ∀ (op : Alu), P (Instr.aluM op))
    (h_retIf : ∀ (cc : Cond), P (Instr.retIf cc))
    (h_pop : ∀ (p : StackPair), P (Instr.pop p))
    (h_jpIf : ∀ (cc : Cond) (a : Word), P (Instr.jpIf cc a))
    (h_jp_a16 : ∀ (a : Word), P (.jp_a16 a))
    (h_callIf : ∀ (cc : Cond) (a : Word), P (Instr.callIf cc a))
    (h_push : ∀ (p : StackPair), P (Instr.push p))
    (h_aluN : ∀ (op : Alu) (n : Byte), P (Instr.aluN op n))
    (h_rst : ∀ (y : Fin 8), P (Instr.rst y))
    (h_ret : P .ret)
    (h_prefixCB : ∀ (op2 : Byte), P (.prefixCB op2))
    (h_call_a16 : ∀ (a : Word), P (.call_a16 a))
    (h_reti : P .reti)
    (h_ldh_mA8_a : ∀ (a : Byte), P (.ldh_mA8_a a))
    (h_ld_mC_a : P .ld_mC_a)
    (h_add_sp_e8 : ∀ (e : Byte), P (.add_sp_e8 e))
    (h_jp_hl : P .jp_hl)
    (h_ld_mA16_a : ∀ (a : Word), P (.ld_mA16_a a))
    (h_ldh_a_mA8 : ∀ (a : Byte), P (.ldh_a_mA8 a))
    (h_ld_a_mC : P .ld_a_mC)
    (h_di : P .di)
    (h_ld_hl_spE8 : ∀ (e : Byte), P (.ld_hl_spE8 e))
    (h_ld_sp_hl : P .ld_sp_hl)
    (h_ld_a_mA16 : ∀ (a : Word), P (.ld_a_mA16 a))
    (h_ei : P .ei)
    (h_rotR : ∀ (op : Rot) (r : Reg8), P (Instr.rotR op r))
    (h_rotM : ∀ (op : Rot), P (Instr.rotM op))
    (h_bitR : ∀ (b : Fin 8) (r : Reg8), P (Instr.bitR b r))
    (h_bitM : ∀ (b : Fin 8), P (Instr.bitM b))
    (h_resR : ∀ (b : Fin 8) (r : Reg8), P (Instr.resR b r))
    (h_resM : ∀ (b : Fin 8), P (Instr.resM b))
    (h_setR : ∀ (b : Fin 8) (r : Reg8), P (Instr.setR b r))
    (h_setM : ∀ (b : Fin 8), P (Instr.setM b))
    (i : Instr) : P i := by
  cases i with
  | nop => exact h_nop
  | ld_bc_n16 n => exact h_ldPairN .bc n
  | ld_mBC_a => exact h_ld_mBC_a
  | inc_bc => exact h_incPair .bc
  | inc_b => exact h_incR .b
  | dec_b => exact h_decR .b
  | ld_b_n8 n => exact h_ldRN .b n
  | rlca => exact h_rlca
  | ld_mA16_sp a => exact h_ld_mA16_sp a
  | add_hl_bc => exact h_addHL .bc
  | ld_a_mBC => exact h_ld_a_mBC
  | dec_bc => exact h_decPair .bc
  | inc_c => exact h_incR .c
  | dec_c => exact h_decR .c
  | ld_c_n8 n => exact h_ldRN .c n
  | rrca => exact h_rrca
  | stop_n8 n => exact h_stop_n8 n
  | ld_de_n16 n => exact h_ldPairN .de n
  | ld_mDE_a => exact h_ld_mDE_a
  | inc_de => exact h_incPair .de
  | inc_d => exact h_incR .d
  | dec_d => exact h_decR .d
  | ld_d_n8 n => exact h_ldRN .d n
  | rla => exact h_rla
  | jr_e8 e => exact h_jr_e8 e
  | add_hl_de => exact h_addHL .de
  | ld_a_mDE => exact h_ld_a_mDE
  | dec_de => exact h_decPair .de
  | inc_e => exact h_incR .e
  | dec_e => exact h_decR .e
  | ld_e_n8 n => exact h_ldRN .e n
  | rra => exact h_rra
  | jr_nz_e8 e => exact h_jrIf .nz e
  | ld_hl_n16 n => exact h_ldPairN .hl n
  | ld_mHLinc_a => exact h_ld_mHLinc_a
  | inc_hl => exact h_incPair .hl
  | inc_h => exact h_incR .h
  | dec_h => exact h_decR .h
  | ld_h_n8 n => exact h_ldRN .h n
  | daa => exact h_daa
  | jr_z_e8 e => exact h_jrIf .z e
  | add_hl_hl => exact h_addHL .hl
  | ld_a_mHLinc => exact h_ld_a_mHLinc
  | dec_hl => exact h_decPair .hl
  | inc_l => exact h_incR .l
  | dec_l => exact h_decR .l
  | ld_l_n8 n => exact h_ldRN .l n
  | cpl => exact h_cpl
  | jr_nc_e8 e => exact h_jrIf .nc e
  | ld_sp_n16 n => exact h_ldPairN .sp n
  | ld_mHLdec_a => exact h_ld_mHLdec_a
  | inc_sp => exact h_incPair .sp
  | inc_mHL => exact h_inc_mHL
  | dec_mHL => exact h_dec_mHL
  | ld_mHL_n8 n => exact h_ld_mHL_n8 n
  | scf => exact h_scf
  | jr_c_e8 e => exact h_jrIf .c e
  | add_hl_sp => exact h_addHL .sp
  | ld_a_mHLdec => exact h_ld_a_mHLdec
  | dec_sp => exact h_decPair .sp
  | inc_a => exact h_incR .a
  | dec_a => exact h_decR .a
  | ld_a_n8 n => exact h_ldRN .a n
  | ccf => exact h_ccf
  | ld_b_b => exact h_ldRR .b .b
  | ld_b_c => exact h_ldRR .b .c
  | ld_b_d => exact h_ldRR .b .d
  | ld_b_e => exact h_ldRR .b .e
  | ld_b_h => exact h_ldRR .b .h
  | ld_b_l => exact h_ldRR .b .l
  | ld_b_mHL => exact h_ldRM .b
  | ld_b_a => exact h_ldRR .b .a
  | ld_c_b => exact h_ldRR .c .b
  | ld_c_c => exact h_ldRR .c .c
  | ld_c_d => exact h_ldRR .c .d
  | ld_c_e => exact h_ldRR .c .e
  | ld_c_h => exact h_ldRR .c .h
  | ld_c_l => exact h_ldRR .c .l
  | ld_c_mHL => exact h_ldRM .c
  | ld_c_a => exact h_ldRR .c .a
  | ld_d_b => exact h_ldRR .d .b
  | ld_d_c => exact h_ldRR .d .c
  | ld_d_d => exact h_ldRR .d .d
  | ld_d_e => exact h_ldRR .d .e
  | ld_d_h => exact h_ldRR .d .h
  | ld_d_l => exact h_ldRR .d .l
  | ld_d_mHL => exact h_ldRM .d
  | ld_d_a => exact h_ldRR .d .a
  | ld_e_b => exact h_ldRR .e .b
  | ld_e_c => exact h_ldRR .e .c
  | ld_e_d => exact h_ldRR .e .d
  | ld_e_e => exact h_ldRR .e .e
  | ld_e_h => exact h_ldRR .e .h
  | ld_e_l => exact h_ldRR .e .l
  | ld_e_mHL => exact h_ldRM .e
  | ld_e_a => exact h_ldRR .e .a
  | ld_h_b => exact h_ldRR .h .b
  | ld_h_c => exact h_ldRR .h .c
  | ld_h_d => exact h_ldRR .h .d
  | ld_h_e => exact h_ldRR .h .e
  | ld_h_h => exact h_ldRR .h .h
  | ld_h_l => exact h_ldRR .h .l
  | ld_h_mHL => exact h_ldRM .h
  | ld_h_a => exact h_ldRR .h .a
  | ld_l_b => exact h_ldRR .l .b
  | ld_l_c => exact h_ldRR .l .c
  | ld_l_d => exact h_ldRR .l .d
  | ld_l_e => exact h_ldRR .l .e
  | ld_l_h => exact h_ldRR .l .h
  | ld_l_l => exact h_ldRR .l .l
  | ld_l_mHL => exact h_ldRM .l
  | ld_l_a => exact h_ldRR .l .a
  | ld_mHL_b => exact h_ldMR .b
  | ld_mHL_c => exact h_ldMR .c
  | ld_mHL_d => exact h_ldMR .d
  | ld_mHL_e => exact h_ldMR .e
  | ld_mHL_h => exact h_ldMR .h
  | ld_mHL_l => exact h_ldMR .l
  | halt => exact h_halt
  | ld_mHL_a => exact h_ldMR .a
  | ld_a_b => exact h_ldRR .a .b
  | ld_a_c => exact h_ldRR .a .c
  | ld_a_d => exact h_ldRR .a .d
  | ld_a_e => exact h_ldRR .a .e
  | ld_a_h => exact h_ldRR .a .h
  | ld_a_l => exact h_ldRR .a .l
  | ld_a_mHL => exact h_ldRM .a
  | ld_a_a => exact h_ldRR .a .a
  | add_a_b => exact h_aluR .add .b
  | add_a_c => exact h_aluR .add .c
  | add_a_d => exact h_aluR .add .d
  | add_a_e => exact h_aluR .add .e
  | add_a_h => exact h_aluR .add .h
  | add_a_l => exact h_aluR .add .l
  | add_a_mHL => exact h_aluM .add
  | add_a_a => exact h_aluR .add .a
  | adc_a_b => exact h_aluR .adc .b
  | adc_a_c => exact h_aluR .adc .c
  | adc_a_d => exact h_aluR .adc .d
  | adc_a_e => exact h_aluR .adc .e
  | adc_a_h => exact h_aluR .adc .h
  | adc_a_l => exact h_aluR .adc .l
  | adc_a_mHL => exact h_aluM .adc
  | adc_a_a => exact h_aluR .adc .a
  | sub_a_b => exact h_aluR .sub .b
  | sub_a_c => exact h_aluR .sub .c
  | sub_a_d => exact h_aluR .sub .d
  | sub_a_e => exact h_aluR .sub .e
  | sub_a_h => exact h_aluR .sub .h
  | sub_a_l => exact h_aluR .sub .l
  | sub_a_mHL => exact h_aluM .sub
  | sub_a_a => exact h_aluR .sub .a
  | sbc_a_b => exact h_aluR .sbc .b
  | sbc_a_c => exact h_aluR .sbc .c
  | sbc_a_d => exact h_aluR .sbc .d
  | sbc_a_e => exact h_aluR .sbc .e
  | sbc_a_h => exact h_aluR .sbc .h
  | sbc_a_l => exact h_aluR .sbc .l
  | sbc_a_mHL => exact h_aluM .sbc
  | sbc_a_a => exact h_aluR .sbc .a
  | and_a_b => exact h_aluR .and .b
  | and_a_c => exact h_aluR .and .c
  | and_a_d => exact h_aluR .and .d
  | and_a_e => exact h_aluR .and .e
  | and_a_h => exact h_aluR .and .h
  | and_a_l => exact h_aluR .and .l
  | and_a_mHL => exact h_aluM .and
  | and_a_a => exact h_aluR .and .a
  | xor_a_b => exact h_aluR .xor .b
  | xor_a_c => exact h_aluR .xor .c
  | xor_a_d => exact h_aluR .xor .d
  | xor_a_e => exact h_aluR .xor .e
  | xor_a_h => exact h_aluR .xor .h
  | xor_a_l => exact h_aluR .xor .l
  | xor_a_mHL => exact h_aluM .xor
  | xor_a_a => exact h_aluR .xor .a
  | or_a_b => exact h_aluR .or .b
  | or_a_c => exact h_aluR .or .c
  | or_a_d => exact h_aluR .or .d
  | or_a_e => exact h_aluR .or .e
  | or_a_h => exact h_aluR .or .h
  | or_a_l => exact h_aluR .or .l
  | or_a_mHL => exact h_aluM .or
  | or_a_a => exact h_aluR .or .a
  | cp_a_b => exact h_aluR .cp .b
  | cp_a_c => exact h_aluR .cp .c
  | cp_a_d => exact h_aluR .cp .d
  | cp_a_e => exact h_aluR .cp .e
  | cp_a_h => exact h_aluR .cp .h
  | cp_a_l => exact h_aluR .cp .l
  | cp_a_mHL => exact h_aluM .cp
  | cp_a_a => exact h_aluR .cp .a
  | ret_nz => exact h_retIf .nz
  | pop_bc => exact h_pop .bc
  | jp_nz_a16 a => exact h_jpIf .nz a
  | jp_a16 a => exact h_jp_a16 a
  | call_nz_a16 a => exact h_callIf .nz a
  | push_bc => exact h_push .bc
  | add_a_n8 n => exact h_aluN .add n
  | rst_00 => exact h_rst 0
  | ret_z => exact h_retIf .z
  | ret => exact h_ret
  | jp_z_a16 a => exact h_jpIf .z a
  | prefixCB op2 => exact h_prefixCB op2
  | call_z_a16 a => exact h_callIf .z a
  | call_a16 a => exact h_call_a16 a
  | adc_a_n8 n => exact h_aluN .adc n
  | rst_08 => exact h_rst 1
  | ret_nc => exact h_retIf .nc
  | pop_de => exact h_pop .de
  | jp_nc_a16 a => exact h_jpIf .nc a
  | call_nc_a16 a => exact h_callIf .nc a
  | push_de => exact h_push .de
  | sub_a_n8 n => exact h_aluN .sub n
  | rst_10 => exact h_rst 2
  | ret_c => exact h_retIf .c
  | reti => exact h_reti
  | jp_c_a16 a => exact h_jpIf .c a
  | call_c_a16 a => exact h_callIf .c a
  | sbc_a_n8 n => exact h_aluN .sbc n
  | rst_18 => exact h_rst 3
  | ldh_mA8_a a => exact h_ldh_mA8_a a
  | pop_hl => exact h_pop .hl
  | ld_mC_a => exact h_ld_mC_a
  | push_hl => exact h_push .hl
  | and_a_n8 n => exact h_aluN .and n
  | rst_20 => exact h_rst 4
  | add_sp_e8 e => exact h_add_sp_e8 e
  | jp_hl => exact h_jp_hl
  | ld_mA16_a a => exact h_ld_mA16_a a
  | xor_a_n8 n => exact h_aluN .xor n
  | rst_28 => exact h_rst 5
  | ldh_a_mA8 a => exact h_ldh_a_mA8 a
  | pop_af => exact h_pop .af
  | ld_a_mC => exact h_ld_a_mC
  | di => exact h_di
  | push_af => exact h_push .af
  | or_a_n8 n => exact h_aluN .or n
  | rst_30 => exact h_rst 6
  | ld_hl_spE8 e => exact h_ld_hl_spE8 e
  | ld_sp_hl => exact h_ld_sp_hl
  | ld_a_mA16 a => exact h_ld_a_mA16 a
  | ei => exact h_ei
  | cp_a_n8 n => exact h_aluN .cp n
  | rst_38 => exact h_rst 7
  | rlc_b => exact h_rotR .rlc .b
  | rlc_c => exact h_rotR .rlc .c
  | rlc_d => exact h_rotR .rlc .d
  | rlc_e => exact h_rotR .rlc .e
  | rlc_h => exact h_rotR .rlc .h
  | rlc_l => exact h_rotR .rlc .l
  | rlc_mHL => exact h_rotM .rlc
  | rlc_a => exact h_rotR .rlc .a
  | rrc_b => exact h_rotR .rrc .b
  | rrc_c => exact h_rotR .rrc .c
  | rrc_d => exact h_rotR .rrc .d
  | rrc_e => exact h_rotR .rrc .e
  | rrc_h => exact h_rotR .rrc .h
  | rrc_l => exact h_rotR .rrc .l
  | rrc_mHL => exact h_rotM .rrc
  | rrc_a => exact h_rotR .rrc .a
  | rl_b => exact h_rotR .rl .b
  | rl_c => exact h_rotR .rl .c
  | rl_d => exact h_rotR .rl .d
  | rl_e => exact h_rotR .rl .e
  | rl_h => exact h_rotR .rl .h
  | rl_l => exact h_rotR .rl .l
  | rl_mHL => exact h_rotM .rl
  | rl_a => exact h_rotR .rl .a
  | rr_b => exact h_rotR .rr .b
  | rr_c => exact h_rotR .rr .c
  | rr_d => exact h_rotR .rr .d
  | rr_e => exact h_rotR .rr .e
  | rr_h => exact h_rotR .rr .h
  | rr_l => exact h_rotR .rr .l
  | rr_mHL => exact h_rotM .rr
  | rr_a => exact h_rotR .rr .a
  | sla_b => exact h_rotR .sla .b
  | sla_c => exact h_rotR .sla .c
  | sla_d => exact h_rotR .sla .d
  | sla_e => exact h_rotR .sla .e
  | sla_h => exact h_rotR .sla .h
  | sla_l => exact h_rotR .sla .l
  | sla_mHL => exact h_rotM .sla
  | sla_a => exact h_rotR .sla .a
  | sra_b => exact h_rotR .sra .b
  | sra_c => exact h_rotR .sra .c
  | sra_d => exact h_rotR .sra .d
  | sra_e => exact h_rotR .sra .e
  | sra_h => exact h_rotR .sra .h
  | sra_l => exact h_rotR .sra .l
  | sra_mHL => exact h_rotM .sra
  | sra_a => exact h_rotR .sra .a
  | swap_b => exact h_rotR .swap .b
  | swap_c => exact h_rotR .swap .c
  | swap_d => exact h_rotR .swap .d
  | swap_e => exact h_rotR .swap .e
  | swap_h => exact h_rotR .swap .h
  | swap_l => exact h_rotR .swap .l
  | swap_mHL => exact h_rotM .swap
  | swap_a => exact h_rotR .swap .a
  | srl_b => exact h_rotR .srl .b
  | srl_c => exact h_rotR .srl .c
  | srl_d => exact h_rotR .srl .d
  | srl_e => exact h_rotR .srl .e
  | srl_h => exact h_rotR .srl .h
  | srl_l => exact h_rotR .srl .l
  | srl_mHL => exact h_rotM .srl
  | srl_a => exact h_rotR .srl .a
  | bit_0_b => exact h_bitR 0 .b
  | bit_0_c => exact h_bitR 0 .c
  | bit_0_d => exact h_bitR 0 .d
  | bit_0_e => exact h_bitR 0 .e
  | bit_0_h => exact h_bitR 0 .h
  | bit_0_l => exact h_bitR 0 .l
  | bit_0_mHL => exact h_bitM 0
  | bit_0_a => exact h_bitR 0 .a
  | bit_1_b => exact h_bitR 1 .b
  | bit_1_c => exact h_bitR 1 .c
  | bit_1_d => exact h_bitR 1 .d
  | bit_1_e => exact h_bitR 1 .e
  | bit_1_h => exact h_bitR 1 .h
  | bit_1_l => exact h_bitR 1 .l
  | bit_1_mHL => exact h_bitM 1
  | bit_1_a => exact h_bitR 1 .a
  | bit_2_b => exact h_bitR 2 .b
  | bit_2_c => exact h_bitR 2 .c
  | bit_2_d => exact h_bitR 2 .d
  | bit_2_e => exact h_bitR 2 .e
  | bit_2_h => exact h_bitR 2 .h
  | bit_2_l => exact h_bitR 2 .l
  | bit_2_mHL => exact h_bitM 2
  | bit_2_a => exact h_bitR 2 .a
  | bit_3_b => exact h_bitR 3 .b
  | bit_3_c => exact h_bitR 3 .c
  | bit_3_d => exact h_bitR 3 .d
  | bit_3_e => exact h_bitR 3 .e
  | bit_3_h => exact h_bitR 3 .h
  | bit_3_l => exact h_bitR 3 .l
  | bit_3_mHL => exact h_bitM 3
  | bit_3_a => exact h_bitR 3 .a
  | bit_4_b => exact h_bitR 4 .b
  | bit_4_c => exact h_bitR 4 .c
  | bit_4_d => exact h_bitR 4 .d
  | bit_4_e => exact h_bitR 4 .e
  | bit_4_h => exact h_bitR 4 .h
  | bit_4_l => exact h_bitR 4 .l
  | bit_4_mHL => exact h_bitM 4
  | bit_4_a => exact h_bitR 4 .a
  | bit_5_b => exact h_bitR 5 .b
  | bit_5_c => exact h_bitR 5 .c
  | bit_5_d => exact h_bitR 5 .d
  | bit_5_e => exact h_bitR 5 .e
  | bit_5_h => exact h_bitR 5 .h
  | bit_5_l => exact h_bitR 5 .l
  | bit_5_mHL => exact h_bitM 5
  | bit_5_a => exact h_bitR 5 .a
  | bit_6_b => exact h_bitR 6 .b
  | bit_6_c => exact h_bitR 6 .c
  | bit_6_d => exact h_bitR 6 .d
  | bit_6_e => exact h_bitR 6 .e
  | bit_6_h => exact h_bitR 6 .h
  | bit_6_l => exact h_bitR 6 .l
  | bit_6_mHL => exact h_bitM 6
  | bit_6_a => exact h_bitR 6 .a
  | bit_7_b => exact h_bitR 7 .b
  | bit_7_c => exact h_bitR 7 .c
  | bit_7_d => exact h_bitR 7 .d
  | bit_7_e => exact h_bitR 7 .e
  | bit_7_h => exact h_bitR 7 .h
  | bit_7_l => exact h_bitR 7 .l
  | bit_7_mHL => exact h_bitM 7
  | bit_7_a => exact h_bitR 7 .a
  | res_0_b => exact h_resR 0 .b
  | res_0_c => exact h_resR 0 .c
  | res_0_d => exact h_resR 0 .d
  | res_0_e => exact h_resR 0 .e
  | res_0_h => exact h_resR 0 .h
  | res_0_l => exact h_resR 0 .l
  | res_0_mHL => exact h_resM 0
  | res_0_a => exact h_resR 0 .a
  | res_1_b => exact h_resR 1 .b
  | res_1_c => exact h_resR 1 .c
  | res_1_d => exact h_resR 1 .d
  | res_1_e => exact h_resR 1 .e
  | res_1_h => exact h_resR 1 .h
  | res_1_l => exact h_resR 1 .l
  | res_1_mHL => exact h_resM 1
  | res_1_a => exact h_resR 1 .a
  | res_2_b => exact h_resR 2 .b
  | res_2_c => exact h_resR 2 .c
  | res_2_d => exact h_resR 2 .d
  | res_2_e => exact h_resR 2 .e
  | res_2_h => exact h_resR 2 .h
  | res_2_l => exact h_resR 2 .l
  | res_2_mHL => exact h_resM 2
  | res_2_a => exact h_resR 2 .a
  | res_3_b => exact h_resR 3 .b
  | res_3_c => exact h_resR 3 .c
  | res_3_d => exact h_resR 3 .d
  | res_3_e => exact h_resR 3 .e
  | res_3_h => exact h_resR 3 .h
  | res_3_l => exact h_resR 3 .l
  | res_3_mHL => exact h_resM 3
  | res_3_a => exact h_resR 3 .a
  | res_4_b => exact h_resR 4 .b
  | res_4_c => exact h_resR 4 .c
  | res_4_d => exact h_resR 4 .d
  | res_4_e => exact h_resR 4 .e
  | res_4_h => exact h_resR 4 .h
  | res_4_l => exact h_resR 4 .l
  | res_4_mHL => exact h_resM 4
  | res_4_a => exact h_resR 4 .a
  | res_5_b => exact h_resR 5 .b
  | res_5_c => exact h_resR 5 .c
  | res_5_d => exact h_resR 5 .d
  | res_5_e => exact h_resR 5 .e
  | res_5_h => exact h_resR 5 .h
  | res_5_l => exact h_resR 5 .l
  | res_5_mHL => exact h_resM 5
  | res_5_a => exact h_resR 5 .a
  | res_6_b => exact h_resR 6 .b
  | res_6_c => exact h_resR 6 .c
  | res_6_d => exact h_resR 6 .d
  | res_6_e => exact h_resR 6 .e
  | res_6_h => exact h_resR 6 .h
  | res_6_l => exact h_resR 6 .l
  | res_6_mHL => exact h_resM 6
  | res_6_a => exact h_resR 6 .a
  | res_7_b => exact h_resR 7 .b
  | res_7_c => exact h_resR 7 .c
  | res_7_d => exact h_resR 7 .d
  | res_7_e => exact h_resR 7 .e
  | res_7_h => exact h_resR 7 .h
  | res_7_l => exact h_resR 7 .l
  | res_7_mHL => exact h_resM 7
  | res_7_a => exact h_resR 7 .a
  | set_0_b => exact h_setR 0 .b
  | set_0_c => exact h_setR 0 .c
  | set_0_d => exact h_setR 0 .d
  | set_0_e => exact h_setR 0 .e
  | set_0_h => exact h_setR 0 .h
  | set_0_l => exact h_setR 0 .l
  | set_0_mHL => exact h_setM 0
  | set_0_a => exact h_setR 0 .a
  | set_1_b => exact h_setR 1 .b
  | set_1_c => exact h_setR 1 .c
  | set_1_d => exact h_setR 1 .d
  | set_1_e => exact h_setR 1 .e
  | set_1_h => exact h_setR 1 .h
  | set_1_l => exact h_setR 1 .l
  | set_1_mHL => exact h_setM 1
  | set_1_a => exact h_setR 1 .a
  | set_2_b => exact h_setR 2 .b
  | set_2_c => exact h_setR 2 .c
  | set_2_d => exact h_setR 2 .d
  | set_2_e => exact h_setR 2 .e
  | set_2_h => exact h_setR 2 .h
  | set_2_l => exact h_setR 2 .l
  | set_2_mHL => exact h_setM 2
  | set_2_a => exact h_setR 2 .a
  | set_3_b => exact h_setR 3 .b
  | set_3_c => exact h_setR 3 .c
  | set_3_d => exact h_setR 3 .d
  | set_3_e => exact h_setR 3 .e
  | set_3_h => exact h_setR 3 .h
  | set_3_l => exact h_setR 3 .l
  | set_3_mHL => exact h_setM 3
  | set_3_a => exact h_setR 3 .a
  | set_4_b => exact h_setR 4 .b
  | set_4_c => exact h_setR 4 .c
  | set_4_d => exact h_setR 4 .d
  | set_4_e => exact h_setR 4 .e
  | set_4_h => exact h_setR 4 .h
  | set_4_l => exact h_setR 4 .l
  | set_4_mHL => exact h_setM 4
  | set_4_a => exact h_setR 4 .a
  | set_5_b => exact h_setR 5 .b
  | set_5_c => exact h_setR 5 .c
  | set_5_d => exact h_setR 5 .d
  | set_5_e => exact h_setR 5 .e
  | set_5_h => exact h_setR 5 .h
  | set_5_l => exact h_setR 5 .l
  | set_5_mHL => exact h_setM 5
  | set_5_a => exact h_setR 5 .a
  | set_6_b => exact h_setR 6 .b
  | set_6_c => exact h_setR 6 .c
  | set_6_d => exact h_setR 6 .d
  | set_6_e => exact h_setR 6 .e
  | set_6_h => exact h_setR 6 .h
  | set_6_l => exact h_setR 6 .l
  | set_6_mHL => exact h_setM 6
  | set_6_a => exact h_setR 6 .a
  | set_7_b => exact h_setR 7 .b
  | set_7_c => exact h_setR 7 .c
  | set_7_d => exact h_setR 7 .d
  | set_7_e => exact h_setR 7 .e
  | set_7_h => exact h_setR 7 .h
  | set_7_l => exact h_setR 7 .l
  | set_7_mHL => exact h_setM 7
  | set_7_a => exact h_setR 7 .a

namespace Machine

theorem exec_nop (s : State) :
    exec .nop s = idle 4 s := rfl

theorem exec_ldPairN (p : Pair) (n : Word) (s : State) :
    exec (Instr.ldPairN p n) s = ldPairN p n s := by cases p <;> rfl

theorem exec_ld_mBC_a (s : State) :
    exec .ld_mBC_a s = store s.bc s.rA 8 s := rfl

theorem exec_incPair (p : Pair) (s : State) :
    exec (Instr.incPair p) s = incPair p s := by cases p <;> rfl

theorem exec_incR (r : Reg8) (s : State) :
    exec (Instr.incR r) s = incR r s := by cases r <;> rfl

theorem exec_decR (r : Reg8) (s : State) :
    exec (Instr.decR r) s = decR r s := by cases r <;> rfl

theorem exec_ldRN (dst : Reg8) (n : Byte) (s : State) :
    exec (Instr.ldRN dst n) s = ldRN dst n s := by cases dst <;> rfl

theorem exec_rlca (s : State) :
    exec .rlca s = rotA .rlc s := rfl

theorem exec_ld_mA16_sp (a : Word) (s : State) :
    exec (.ld_mA16_sp a) s = storeSp a s := rfl

theorem exec_addHL (p : Pair) (s : State) :
    exec (Instr.addHL p) s = addHL p s := by cases p <;> rfl

theorem exec_ld_a_mBC (s : State) :
    exec .ld_a_mBC s = loadR .a s.bc 8 s := rfl

theorem exec_decPair (p : Pair) (s : State) :
    exec (Instr.decPair p) s = decPair p s := by cases p <;> rfl

theorem exec_rrca (s : State) :
    exec .rrca s = rotA .rrc s := rfl

theorem exec_stop_n8 (n : Byte) (s : State) :
    exec (.stop_n8 n) s = stop s := rfl

theorem exec_ld_mDE_a (s : State) :
    exec .ld_mDE_a s = store s.de s.rA 8 s := rfl

theorem exec_rla (s : State) :
    exec .rla s = rotA .rl s := rfl

theorem exec_jr_e8 (e : Byte) (s : State) :
    exec (.jr_e8 e) s = jump (s.pc + sext16 e) 12 s := rfl

theorem exec_ld_a_mDE (s : State) :
    exec .ld_a_mDE s = loadR .a s.de 8 s := rfl

theorem exec_rra (s : State) :
    exec .rra s = rotA .rr s := rfl

theorem exec_jrIf (cc : Cond) (e : Byte) (s : State) :
    exec (Instr.jrIf cc e) s = jumpIf cc (s.pc + sext16 e) 12 8 s := by cases cc <;> rfl

theorem exec_ld_mHLinc_a (s : State) :
    exec .ld_mHLinc_a s = storeAMoveHL 1#16 s := rfl

theorem exec_daa (s : State) :
    exec .daa s = adjustA s := rfl

theorem exec_ld_a_mHLinc (s : State) :
    exec .ld_a_mHLinc s = loadAMoveHL 1#16 s := rfl

theorem exec_cpl (s : State) :
    exec .cpl s = complementA s := rfl

theorem exec_ld_mHLdec_a (s : State) :
    exec .ld_mHLdec_a s = storeAMoveHL (-1#16) s := rfl

theorem exec_inc_mHL (s : State) :
    exec .inc_mHL s = incM s := rfl

theorem exec_dec_mHL (s : State) :
    exec .dec_mHL s = decM s := rfl

theorem exec_ld_mHL_n8 (n : Byte) (s : State) :
    exec (.ld_mHL_n8 n) s = store s.hl n 12 s := rfl

theorem exec_scf (s : State) :
    exec .scf s = setCarry s := rfl

theorem exec_ld_a_mHLdec (s : State) :
    exec .ld_a_mHLdec s = loadAMoveHL (-1#16) s := rfl

theorem exec_ccf (s : State) :
    exec .ccf s = flipCarry s := rfl

theorem exec_ldRR (dst r : Reg8) (s : State) :
    exec (Instr.ldRR dst r) s = ldRR dst r s := by cases dst <;> cases r <;> rfl

theorem exec_ldRM (dst : Reg8) (s : State) :
    exec (Instr.ldRM dst) s = loadR dst s.hl 8 s := by cases dst <;> rfl

theorem exec_ldMR (r : Reg8) (s : State) :
    exec (Instr.ldMR r) s = store s.hl (s.getR r) 8 s := by cases r <;> rfl

theorem exec_halt (s : State) :
    exec .halt s = enterHalt s := rfl

theorem exec_aluR (op : Alu) (r : Reg8) (s : State) :
    exec (Instr.aluR op r) s = aluR op r s := by cases op <;> cases r <;> rfl

theorem exec_aluM (op : Alu) (s : State) :
    exec (Instr.aluM op) s = aluM op s := by cases op <;> rfl

theorem exec_retIf (cc : Cond) (s : State) :
    exec (Instr.retIf cc) s = retIf cc s := by cases cc <;> rfl

theorem exec_pop (p : StackPair) (s : State) :
    exec (Instr.pop p) s = popPair p s := by cases p <;> rfl

theorem exec_jpIf (cc : Cond) (a : Word) (s : State) :
    exec (Instr.jpIf cc a) s = jumpIf cc a 16 12 s := by cases cc <;> rfl

theorem exec_jp_a16 (a : Word) (s : State) :
    exec (.jp_a16 a) s = jump a 16 s := rfl

theorem exec_callIf (cc : Cond) (a : Word) (s : State) :
    exec (Instr.callIf cc a) s = callIf cc a s := by cases cc <;> rfl

theorem exec_push (p : StackPair) (s : State) :
    exec (Instr.push p) s = pushPair p s := by cases p <;> rfl

theorem exec_aluN (op : Alu) (n : Byte) (s : State) :
    exec (Instr.aluN op n) s = aluN op n s := by cases op <;> rfl

theorem exec_rst (y : Fin 8) (s : State) :
    exec (Instr.rst y) s = call (BitVec.ofNat 16 (8 * y.val)) 16 s := by fin_cases y <;> rfl

theorem exec_ret (s : State) :
    exec .ret s = ret 16 s := rfl

theorem exec_prefixCB (op2 : Byte) (s : State) :
    exec (.prefixCB op2) s = runPrefixed op2 s := rfl

theorem exec_call_a16 (a : Word) (s : State) :
    exec (.call_a16 a) s = call a 24 s := rfl

theorem exec_reti (s : State) :
    exec .reti s = reti s := rfl

theorem exec_ldh_mA8_a (a : Byte) (s : State) :
    exec (.ldh_mA8_a a) s = store (highPage a) s.rA 12 s := rfl

theorem exec_ld_mC_a (s : State) :
    exec .ld_mC_a s = store (highPage s.rC) s.rA 8 s := rfl

theorem exec_add_sp_e8 (e : Byte) (s : State) :
    exec (.add_sp_e8 e) s = addSp e s := rfl

theorem exec_jp_hl (s : State) :
    exec .jp_hl s = jump s.hl 4 s := rfl

theorem exec_ld_mA16_a (a : Word) (s : State) :
    exec (.ld_mA16_a a) s = store a s.rA 16 s := rfl

theorem exec_ldh_a_mA8 (a : Byte) (s : State) :
    exec (.ldh_a_mA8 a) s = loadR .a (highPage a) 12 s := rfl

theorem exec_ld_a_mC (s : State) :
    exec .ld_a_mC s = loadR .a (highPage s.rC) 8 s := rfl

theorem exec_di (s : State) :
    exec .di s = disable s := rfl

theorem exec_ld_hl_spE8 (e : Byte) (s : State) :
    exec (.ld_hl_spE8 e) s = ldHLSp e s := rfl

theorem exec_ld_sp_hl (s : State) :
    exec .ld_sp_hl s = ldSpHL s := rfl

theorem exec_ld_a_mA16 (a : Word) (s : State) :
    exec (.ld_a_mA16 a) s = loadR .a a 16 s := rfl

theorem exec_ei (s : State) :
    exec .ei s = enable s := rfl

theorem exec_rotR (op : Rot) (r : Reg8) (s : State) :
    exec (Instr.rotR op r) s = rotR op r s := by cases op <;> cases r <;> rfl

theorem exec_rotM (op : Rot) (s : State) :
    exec (Instr.rotM op) s = rotM op s := by cases op <;> rfl

theorem exec_bitR (b : Fin 8) (r : Reg8) (s : State) :
    exec (Instr.bitR b r) s = testBitR b r s := by fin_cases b <;> cases r <;> rfl

theorem exec_bitM (b : Fin 8) (s : State) :
    exec (Instr.bitM b) s = testBitM b s := by fin_cases b <;> rfl

theorem exec_resR (b : Fin 8) (r : Reg8) (s : State) :
    exec (Instr.resR b r) s = resetBitR b r s := by fin_cases b <;> cases r <;> rfl

theorem exec_resM (b : Fin 8) (s : State) :
    exec (Instr.resM b) s = resetBitM b s := by fin_cases b <;> rfl

theorem exec_setR (b : Fin 8) (r : Reg8) (s : State) :
    exec (Instr.setR b r) s = setBitR b r s := by fin_cases b <;> cases r <;> rfl

theorem exec_setM (b : Fin 8) (s : State) :
    exec (Instr.setM b) s = setBitM b s := by fin_cases b <;> rfl

/-- The row of the marker runs the prefixed instruction of its byte (45_system.md R204). -/
theorem runPrefixed_eq (op2 : Byte) (s : State) : runPrefixed op2 s = exec (Instr.prefixed op2) s := by
  simp only [runPrefixed, Instr.prefixed]
  generalize (op2.extractLsb' 6 2).toNat = x
  match x, Operand8.ofCode (op2.extractLsb' 0 3) with
  | 0, .reg r => exact (exec_rotR _ r s).symm
  | 0, .atHL => exact (exec_rotM _ s).symm
  | 1, .reg r => exact (exec_bitR _ r s).symm
  | 1, .atHL => exact (exec_bitM _ s).symm
  | 2, .reg r => exact (exec_resR _ r s).symm
  | 2, .atHL => exact (exec_resM _ s).symm
  | _ + 3, .reg r => exact (exec_setR _ r s).symm
  | _ + 3, .atHL => exact (exec_setM _ s).symm

end Machine

end Sys2Proof
end

