-- ==== Sys2Proof/Laws/Memory.lean ====
section
/-! SUPPORT. The laws of the backing array: reading after writing, and the canonical form. -/

namespace Sys2Proof.Machine

@[simp] theorem Memory.read_nil (a : Nat) : Memory.read [] a = Memory.unlisted := rfl

/-- Below the first address listed every byte reads as an unlisted one. -/
theorem Memory.read_below {m : Memory} {lo a : Nat} (hm : Memory.wfFrom lo m = true) (ha : a < lo) :
    Memory.read m a = Memory.unlisted := by
  induction m generalizing lo with
  | nil => rfl
  | cons p rest ih =>
    obtain ⟨k, w⟩ := p
    simp only [Memory.wfFrom, Bool.and_eq_true, decide_eq_true_eq] at hm
    rw [Memory.read, if_neg (by omega)]
    exact ih hm.2 (by omega)

/-- The bound of the canonical form may be lowered. -/
theorem Memory.wfFrom_mono {m : Memory} {lo lo' : Nat} (h : lo' ≤ lo) (hm : Memory.wfFrom lo m = true) :
    Memory.wfFrom lo' m = true := by
  cases m with
  | nil => rfl
  | cons p rest =>
    obtain ⟨k, w⟩ := p
    simp only [Memory.wfFrom, Bool.and_eq_true, decide_eq_true_eq] at hm ⊢
    exact ⟨⟨⟨by omega, hm.1.1.2⟩, hm.1.2⟩, hm.2⟩

theorem Memory.cons_wfFrom {rest : Memory} {lo a : Nat} (v : Byte) (hlo : lo ≤ a) (ha : a < 65536)
    (hr : Memory.wfFrom (a + 1) rest = true) : Memory.wfFrom lo (Memory.cons a v rest) = true := by
  unfold Memory.cons
  split
  · exact Memory.wfFrom_mono (by omega) hr
  · next hv => simp [Memory.wfFrom, hlo, ha, hv, hr]

theorem Memory.write_wfFrom {m : Memory} {lo a : Nat} (v : Byte) (hlo : lo ≤ a) (ha : a < 65536)
    (hm : Memory.wfFrom lo m = true) : Memory.wfFrom lo (Memory.write m a v) = true := by
  induction m generalizing lo with
  | nil => exact Memory.cons_wfFrom v hlo ha rfl
  | cons p rest ih =>
    obtain ⟨k, w⟩ := p
    have hm' := hm
    simp only [Memory.wfFrom, Bool.and_eq_true, decide_eq_true_eq] at hm
    simp only [Memory.write]
    split
    · next hlt =>
      apply Memory.cons_wfFrom v hlo ha
      simp only [Memory.wfFrom, Bool.and_eq_true, decide_eq_true_eq]
      exact ⟨⟨⟨by omega, hm.1.1.2⟩, hm.1.2⟩, hm.2⟩
    · split
      · next heq => subst heq; exact Memory.cons_wfFrom v hlo ha hm.2
      · simp only [Memory.wfFrom, Bool.and_eq_true, decide_eq_true_eq]
        exact ⟨⟨⟨hm.1.1.1, hm.1.1.2⟩, hm.1.2⟩, ih (by omega) hm.2⟩

/-- A write to an address of the space keeps the canonical form. -/
theorem Memory.write_wf {m : Memory} (a : Word) (v : Byte) (hm : Memory.wf m = true) :
    Memory.wf (Memory.write m a.toNat v) = true := Memory.write_wfFrom v (Nat.zero_le _) a.isLt hm

theorem Memory.read_cons_self {rest : Memory} {a : Nat} (v : Byte) (hr : Memory.wfFrom (a + 1) rest = true) :
    Memory.read (Memory.cons a v rest) a = v := by
  unfold Memory.cons
  split
  · next hv => rw [hv]; exact Memory.read_below hr (by omega)
  · simp [Memory.read]

theorem Memory.read_cons_ne {rest : Memory} {a x : Nat} (v : Byte) (hx : x ≠ a) :
    Memory.read (Memory.cons a v rest) x = Memory.read rest x := by
  unfold Memory.cons
  split
  · rfl
  · rw [Memory.read, if_neg (Ne.symm hx)]

/-- A read of the address just written gives the byte written. -/
theorem Memory.read_write_self {m : Memory} (a : Nat) (v : Byte) {lo : Nat} (hm : Memory.wfFrom lo m = true) :
    Memory.read (Memory.write m a v) a = v := by
  induction m generalizing lo with
  | nil => exact Memory.read_cons_self v rfl
  | cons p rest ih =>
    obtain ⟨k, w⟩ := p
    simp only [Memory.wfFrom, Bool.and_eq_true, decide_eq_true_eq] at hm
    simp only [Memory.write]
    split
    · next hlt =>
      apply Memory.read_cons_self
      simp only [Memory.wfFrom, Bool.and_eq_true, decide_eq_true_eq]
      exact ⟨⟨⟨by omega, hm.1.1.2⟩, hm.1.2⟩, hm.2⟩
    · split
      · next heq => subst heq; exact Memory.read_cons_self v hm.2
      · next hne => rw [Memory.read, if_neg (Ne.symm hne)]; exact ih hm.2

/-- A write leaves every other address alone. -/
theorem Memory.read_write_ne {m : Memory} {a x : Nat} (v : Byte) (hx : x ≠ a) :
    Memory.read (Memory.write m a v) x = Memory.read m x := by
  induction m with
  | nil => exact Memory.read_cons_ne v hx
  | cons p rest ih =>
    obtain ⟨k, w⟩ := p
    simp only [Memory.write]
    split
    · exact Memory.read_cons_ne v hx
    · split
      · next heq =>
        rw [Memory.read_cons_ne v hx, Memory.read]
        split
        · next hk => exact absurd (hk.symm.trans heq.symm) hx
        · rfl
      · simp only [Memory.read]
        split
        · rfl
        · exact ih

/-- An array given by its cells is in canonical form. -/
theorem Memory.ofCells_wf (cells : List (Word × Byte)) : Memory.wf (Memory.ofCells cells) = true := by
  have go : ∀ (cs : List (Word × Byte)) (m : Memory), Memory.wf m = true →
      Memory.wf (cs.foldl (fun m c => Memory.write m c.1.toNat c.2) m) = true := by
    intro cs
    induction cs with
    | nil => intro m hm; exact hm
    | cons c cs ih => intro m hm; exact ih _ (Memory.write_wf c.1 c.2 hm)
  exact go cells [] rfl

end Sys2Proof.Machine
end

