-- ==== Sys2Proof/Laws/State.lean ====
section
/-! SUPPORT. What each named update of the state does to each field: one lemma per field per update, by rfl. -/

namespace Sys2Proof.Machine

/-! ### `setR` -/

@[simp] theorem State.setR_f (s : State) (r : Reg8) (v : Byte) : (s.setR r v).f = s.f := by cases r <;> rfl
@[simp] theorem State.setR_sp (s : State) (r : Reg8) (v : Byte) : (s.setR r v).sp = s.sp := by cases r <;> rfl
@[simp] theorem State.setR_pc (s : State) (r : Reg8) (v : Byte) : (s.setR r v).pc = s.pc := by cases r <;> rfl
@[simp] theorem State.setR_ime (s : State) (r : Reg8) (v : Byte) : (s.setR r v).ime = s.ime := by cases r <;> rfl
@[simp] theorem State.setR_imeScheduled (s : State) (r : Reg8) (v : Byte) : (s.setR r v).imeScheduled = s.imeScheduled := by cases r <;> rfl
@[simp] theorem State.setR_mode (s : State) (r : Reg8) (v : Byte) : (s.setR r v).mode = s.mode := by cases r <;> rfl
@[simp] theorem State.setR_ieReg (s : State) (r : Reg8) (v : Byte) : (s.setR r v).ieReg = s.ieReg := by cases r <;> rfl
@[simp] theorem State.setR_ifReg (s : State) (r : Reg8) (v : Byte) : (s.setR r v).ifReg = s.ifReg := by cases r <;> rfl
@[simp] theorem State.setR_faulted (s : State) (r : Reg8) (v : Byte) : (s.setR r v).faulted = s.faulted := by cases r <;> rfl
@[simp] theorem State.setR_mem (s : State) (r : Reg8) (v : Byte) : (s.setR r v).mem = s.mem := by cases r <;> rfl
@[simp] theorem State.setR_registry (s : State) (r : Reg8) (v : Byte) : (s.setR r v).registry = s.registry := by cases r <;> rfl
@[simp] theorem State.setR_nextHandle (s : State) (r : Reg8) (v : Byte) : (s.setR r v).nextHandle = s.nextHandle := by cases r <;> rfl
@[simp] theorem State.setR_devices (s : State) (r : Reg8) (v : Byte) : (s.setR r v).devices = s.devices := by cases r <;> rfl
@[simp] theorem State.setR_config (s : State) (r : Reg8) (v : Byte) : (s.setR r v).config = s.config := by cases r <;> rfl
@[simp] theorem State.setR_cycles (s : State) (r : Reg8) (v : Byte) : (s.setR r v).cycles = s.cycles := by cases r <;> rfl

/-! ### `setF` -/

@[simp] theorem State.setF_rA (s : State) (g : Flags) : (s.setF g).rA = s.rA := rfl
@[simp] theorem State.setF_f (s : State) (g : Flags) : (s.setF g).f = g := rfl
@[simp] theorem State.setF_rB (s : State) (g : Flags) : (s.setF g).rB = s.rB := rfl
@[simp] theorem State.setF_rC (s : State) (g : Flags) : (s.setF g).rC = s.rC := rfl
@[simp] theorem State.setF_rD (s : State) (g : Flags) : (s.setF g).rD = s.rD := rfl
@[simp] theorem State.setF_rE (s : State) (g : Flags) : (s.setF g).rE = s.rE := rfl
@[simp] theorem State.setF_rH (s : State) (g : Flags) : (s.setF g).rH = s.rH := rfl
@[simp] theorem State.setF_rL (s : State) (g : Flags) : (s.setF g).rL = s.rL := rfl
@[simp] theorem State.setF_sp (s : State) (g : Flags) : (s.setF g).sp = s.sp := rfl
@[simp] theorem State.setF_pc (s : State) (g : Flags) : (s.setF g).pc = s.pc := rfl
@[simp] theorem State.setF_ime (s : State) (g : Flags) : (s.setF g).ime = s.ime := rfl
@[simp] theorem State.setF_imeScheduled (s : State) (g : Flags) : (s.setF g).imeScheduled = s.imeScheduled := rfl
@[simp] theorem State.setF_mode (s : State) (g : Flags) : (s.setF g).mode = s.mode := rfl
@[simp] theorem State.setF_ieReg (s : State) (g : Flags) : (s.setF g).ieReg = s.ieReg := rfl
@[simp] theorem State.setF_ifReg (s : State) (g : Flags) : (s.setF g).ifReg = s.ifReg := rfl
@[simp] theorem State.setF_faulted (s : State) (g : Flags) : (s.setF g).faulted = s.faulted := rfl
@[simp] theorem State.setF_mem (s : State) (g : Flags) : (s.setF g).mem = s.mem := rfl
@[simp] theorem State.setF_registry (s : State) (g : Flags) : (s.setF g).registry = s.registry := rfl
@[simp] theorem State.setF_nextHandle (s : State) (g : Flags) : (s.setF g).nextHandle = s.nextHandle := rfl
@[simp] theorem State.setF_devices (s : State) (g : Flags) : (s.setF g).devices = s.devices := rfl
@[simp] theorem State.setF_config (s : State) (g : Flags) : (s.setF g).config = s.config := rfl
@[simp] theorem State.setF_cycles (s : State) (g : Flags) : (s.setF g).cycles = s.cycles := rfl

/-! ### `setPc` -/

@[simp] theorem State.setPc_rA (s : State) (v : Word) : (s.setPc v).rA = s.rA := rfl
@[simp] theorem State.setPc_f (s : State) (v : Word) : (s.setPc v).f = s.f := rfl
@[simp] theorem State.setPc_rB (s : State) (v : Word) : (s.setPc v).rB = s.rB := rfl
@[simp] theorem State.setPc_rC (s : State) (v : Word) : (s.setPc v).rC = s.rC := rfl
@[simp] theorem State.setPc_rD (s : State) (v : Word) : (s.setPc v).rD = s.rD := rfl
@[simp] theorem State.setPc_rE (s : State) (v : Word) : (s.setPc v).rE = s.rE := rfl
@[simp] theorem State.setPc_rH (s : State) (v : Word) : (s.setPc v).rH = s.rH := rfl
@[simp] theorem State.setPc_rL (s : State) (v : Word) : (s.setPc v).rL = s.rL := rfl
@[simp] theorem State.setPc_sp (s : State) (v : Word) : (s.setPc v).sp = s.sp := rfl
@[simp] theorem State.setPc_pc (s : State) (v : Word) : (s.setPc v).pc = v := rfl
@[simp] theorem State.setPc_ime (s : State) (v : Word) : (s.setPc v).ime = s.ime := rfl
@[simp] theorem State.setPc_imeScheduled (s : State) (v : Word) : (s.setPc v).imeScheduled = s.imeScheduled := rfl
@[simp] theorem State.setPc_mode (s : State) (v : Word) : (s.setPc v).mode = s.mode := rfl
@[simp] theorem State.setPc_ieReg (s : State) (v : Word) : (s.setPc v).ieReg = s.ieReg := rfl
@[simp] theorem State.setPc_ifReg (s : State) (v : Word) : (s.setPc v).ifReg = s.ifReg := rfl
@[simp] theorem State.setPc_faulted (s : State) (v : Word) : (s.setPc v).faulted = s.faulted := rfl
@[simp] theorem State.setPc_mem (s : State) (v : Word) : (s.setPc v).mem = s.mem := rfl
@[simp] theorem State.setPc_registry (s : State) (v : Word) : (s.setPc v).registry = s.registry := rfl
@[simp] theorem State.setPc_nextHandle (s : State) (v : Word) : (s.setPc v).nextHandle = s.nextHandle := rfl
@[simp] theorem State.setPc_devices (s : State) (v : Word) : (s.setPc v).devices = s.devices := rfl
@[simp] theorem State.setPc_config (s : State) (v : Word) : (s.setPc v).config = s.config := rfl
@[simp] theorem State.setPc_cycles (s : State) (v : Word) : (s.setPc v).cycles = s.cycles := rfl

/-! ### `charge` -/

@[simp] theorem State.charge_rA (s : State) (n : Nat) : (s.charge n).rA = s.rA := rfl
@[simp] theorem State.charge_f (s : State) (n : Nat) : (s.charge n).f = s.f := rfl
@[simp] theorem State.charge_rB (s : State) (n : Nat) : (s.charge n).rB = s.rB := rfl
@[simp] theorem State.charge_rC (s : State) (n : Nat) : (s.charge n).rC = s.rC := rfl
@[simp] theorem State.charge_rD (s : State) (n : Nat) : (s.charge n).rD = s.rD := rfl
@[simp] theorem State.charge_rE (s : State) (n : Nat) : (s.charge n).rE = s.rE := rfl
@[simp] theorem State.charge_rH (s : State) (n : Nat) : (s.charge n).rH = s.rH := rfl
@[simp] theorem State.charge_rL (s : State) (n : Nat) : (s.charge n).rL = s.rL := rfl
@[simp] theorem State.charge_sp (s : State) (n : Nat) : (s.charge n).sp = s.sp := rfl
@[simp] theorem State.charge_pc (s : State) (n : Nat) : (s.charge n).pc = s.pc := rfl
@[simp] theorem State.charge_ime (s : State) (n : Nat) : (s.charge n).ime = s.ime := rfl
@[simp] theorem State.charge_imeScheduled (s : State) (n : Nat) : (s.charge n).imeScheduled = s.imeScheduled := rfl
@[simp] theorem State.charge_mode (s : State) (n : Nat) : (s.charge n).mode = s.mode := rfl
@[simp] theorem State.charge_ieReg (s : State) (n : Nat) : (s.charge n).ieReg = s.ieReg := rfl
@[simp] theorem State.charge_ifReg (s : State) (n : Nat) : (s.charge n).ifReg = s.ifReg := rfl
@[simp] theorem State.charge_faulted (s : State) (n : Nat) : (s.charge n).faulted = s.faulted := rfl
@[simp] theorem State.charge_mem (s : State) (n : Nat) : (s.charge n).mem = s.mem := rfl
@[simp] theorem State.charge_registry (s : State) (n : Nat) : (s.charge n).registry = s.registry := rfl
@[simp] theorem State.charge_nextHandle (s : State) (n : Nat) : (s.charge n).nextHandle = s.nextHandle := rfl
@[simp] theorem State.charge_devices (s : State) (n : Nat) : (s.charge n).devices = s.devices := rfl
@[simp] theorem State.charge_config (s : State) (n : Nat) : (s.charge n).config = s.config := rfl
@[simp] theorem State.charge_cycles (s : State) (n : Nat) : (s.charge n).cycles = n := rfl

/-! ### `addCycles` -/

@[simp] theorem State.addCycles_rA (s : State) (n : Nat) : (s.addCycles n).rA = s.rA := rfl
@[simp] theorem State.addCycles_f (s : State) (n : Nat) : (s.addCycles n).f = s.f := rfl
@[simp] theorem State.addCycles_rB (s : State) (n : Nat) : (s.addCycles n).rB = s.rB := rfl
@[simp] theorem State.addCycles_rC (s : State) (n : Nat) : (s.addCycles n).rC = s.rC := rfl
@[simp] theorem State.addCycles_rD (s : State) (n : Nat) : (s.addCycles n).rD = s.rD := rfl
@[simp] theorem State.addCycles_rE (s : State) (n : Nat) : (s.addCycles n).rE = s.rE := rfl
@[simp] theorem State.addCycles_rH (s : State) (n : Nat) : (s.addCycles n).rH = s.rH := rfl
@[simp] theorem State.addCycles_rL (s : State) (n : Nat) : (s.addCycles n).rL = s.rL := rfl
@[simp] theorem State.addCycles_sp (s : State) (n : Nat) : (s.addCycles n).sp = s.sp := rfl
@[simp] theorem State.addCycles_pc (s : State) (n : Nat) : (s.addCycles n).pc = s.pc := rfl
@[simp] theorem State.addCycles_ime (s : State) (n : Nat) : (s.addCycles n).ime = s.ime := rfl
@[simp] theorem State.addCycles_imeScheduled (s : State) (n : Nat) : (s.addCycles n).imeScheduled = s.imeScheduled := rfl
@[simp] theorem State.addCycles_mode (s : State) (n : Nat) : (s.addCycles n).mode = s.mode := rfl
@[simp] theorem State.addCycles_ieReg (s : State) (n : Nat) : (s.addCycles n).ieReg = s.ieReg := rfl
@[simp] theorem State.addCycles_ifReg (s : State) (n : Nat) : (s.addCycles n).ifReg = s.ifReg := rfl
@[simp] theorem State.addCycles_faulted (s : State) (n : Nat) : (s.addCycles n).faulted = s.faulted := rfl
@[simp] theorem State.addCycles_mem (s : State) (n : Nat) : (s.addCycles n).mem = s.mem := rfl
@[simp] theorem State.addCycles_registry (s : State) (n : Nat) : (s.addCycles n).registry = s.registry := rfl
@[simp] theorem State.addCycles_nextHandle (s : State) (n : Nat) : (s.addCycles n).nextHandle = s.nextHandle := rfl
@[simp] theorem State.addCycles_devices (s : State) (n : Nat) : (s.addCycles n).devices = s.devices := rfl
@[simp] theorem State.addCycles_config (s : State) (n : Nat) : (s.addCycles n).config = s.config := rfl
@[simp] theorem State.addCycles_cycles (s : State) (n : Nat) : (s.addCycles n).cycles = s.cycles + n := rfl

/-! ### `setHL` -/

@[simp] theorem State.setHL_rA (s : State) (v : Word) : (s.setHL v).rA = s.rA := rfl
@[simp] theorem State.setHL_f (s : State) (v : Word) : (s.setHL v).f = s.f := rfl
@[simp] theorem State.setHL_rB (s : State) (v : Word) : (s.setHL v).rB = s.rB := rfl
@[simp] theorem State.setHL_rC (s : State) (v : Word) : (s.setHL v).rC = s.rC := rfl
@[simp] theorem State.setHL_rD (s : State) (v : Word) : (s.setHL v).rD = s.rD := rfl
@[simp] theorem State.setHL_rE (s : State) (v : Word) : (s.setHL v).rE = s.rE := rfl
@[simp] theorem State.setHL_rH (s : State) (v : Word) : (s.setHL v).rH = hiByte v := rfl
@[simp] theorem State.setHL_rL (s : State) (v : Word) : (s.setHL v).rL = loByte v := rfl
@[simp] theorem State.setHL_sp (s : State) (v : Word) : (s.setHL v).sp = s.sp := rfl
@[simp] theorem State.setHL_pc (s : State) (v : Word) : (s.setHL v).pc = s.pc := rfl
@[simp] theorem State.setHL_ime (s : State) (v : Word) : (s.setHL v).ime = s.ime := rfl
@[simp] theorem State.setHL_imeScheduled (s : State) (v : Word) : (s.setHL v).imeScheduled = s.imeScheduled := rfl
@[simp] theorem State.setHL_mode (s : State) (v : Word) : (s.setHL v).mode = s.mode := rfl
@[simp] theorem State.setHL_ieReg (s : State) (v : Word) : (s.setHL v).ieReg = s.ieReg := rfl
@[simp] theorem State.setHL_ifReg (s : State) (v : Word) : (s.setHL v).ifReg = s.ifReg := rfl
@[simp] theorem State.setHL_faulted (s : State) (v : Word) : (s.setHL v).faulted = s.faulted := rfl
@[simp] theorem State.setHL_mem (s : State) (v : Word) : (s.setHL v).mem = s.mem := rfl
@[simp] theorem State.setHL_registry (s : State) (v : Word) : (s.setHL v).registry = s.registry := rfl
@[simp] theorem State.setHL_nextHandle (s : State) (v : Word) : (s.setHL v).nextHandle = s.nextHandle := rfl
@[simp] theorem State.setHL_devices (s : State) (v : Word) : (s.setHL v).devices = s.devices := rfl
@[simp] theorem State.setHL_config (s : State) (v : Word) : (s.setHL v).config = s.config := rfl
@[simp] theorem State.setHL_cycles (s : State) (v : Word) : (s.setHL v).cycles = s.cycles := rfl

/-! ### `setPair` -/

@[simp] theorem State.setPair_rA (s : State) (p : Pair) (v : Word) : (s.setPair p v).rA = s.rA := by cases p <;> rfl
@[simp] theorem State.setPair_f (s : State) (p : Pair) (v : Word) : (s.setPair p v).f = s.f := by cases p <;> rfl
@[simp] theorem State.setPair_pc (s : State) (p : Pair) (v : Word) : (s.setPair p v).pc = s.pc := by cases p <;> rfl
@[simp] theorem State.setPair_ime (s : State) (p : Pair) (v : Word) : (s.setPair p v).ime = s.ime := by cases p <;> rfl
@[simp] theorem State.setPair_imeScheduled (s : State) (p : Pair) (v : Word) : (s.setPair p v).imeScheduled = s.imeScheduled := by cases p <;> rfl
@[simp] theorem State.setPair_mode (s : State) (p : Pair) (v : Word) : (s.setPair p v).mode = s.mode := by cases p <;> rfl
@[simp] theorem State.setPair_ieReg (s : State) (p : Pair) (v : Word) : (s.setPair p v).ieReg = s.ieReg := by cases p <;> rfl
@[simp] theorem State.setPair_ifReg (s : State) (p : Pair) (v : Word) : (s.setPair p v).ifReg = s.ifReg := by cases p <;> rfl
@[simp] theorem State.setPair_faulted (s : State) (p : Pair) (v : Word) : (s.setPair p v).faulted = s.faulted := by cases p <;> rfl
@[simp] theorem State.setPair_mem (s : State) (p : Pair) (v : Word) : (s.setPair p v).mem = s.mem := by cases p <;> rfl
@[simp] theorem State.setPair_registry (s : State) (p : Pair) (v : Word) : (s.setPair p v).registry = s.registry := by cases p <;> rfl
@[simp] theorem State.setPair_nextHandle (s : State) (p : Pair) (v : Word) : (s.setPair p v).nextHandle = s.nextHandle := by cases p <;> rfl
@[simp] theorem State.setPair_devices (s : State) (p : Pair) (v : Word) : (s.setPair p v).devices = s.devices := by cases p <;> rfl
@[simp] theorem State.setPair_config (s : State) (p : Pair) (v : Word) : (s.setPair p v).config = s.config := by cases p <;> rfl
@[simp] theorem State.setPair_cycles (s : State) (p : Pair) (v : Word) : (s.setPair p v).cycles = s.cycles := by cases p <;> rfl

/-! ### `setStackPair` -/

@[simp] theorem State.setStackPair_sp (s : State) (p : StackPair) (v : Word) : (s.setStackPair p v).sp = s.sp := by cases p <;> rfl
@[simp] theorem State.setStackPair_pc (s : State) (p : StackPair) (v : Word) : (s.setStackPair p v).pc = s.pc := by cases p <;> rfl
@[simp] theorem State.setStackPair_ime (s : State) (p : StackPair) (v : Word) : (s.setStackPair p v).ime = s.ime := by cases p <;> rfl
@[simp] theorem State.setStackPair_imeScheduled (s : State) (p : StackPair) (v : Word) : (s.setStackPair p v).imeScheduled = s.imeScheduled := by cases p <;> rfl
@[simp] theorem State.setStackPair_mode (s : State) (p : StackPair) (v : Word) : (s.setStackPair p v).mode = s.mode := by cases p <;> rfl
@[simp] theorem State.setStackPair_ieReg (s : State) (p : StackPair) (v : Word) : (s.setStackPair p v).ieReg = s.ieReg := by cases p <;> rfl
@[simp] theorem State.setStackPair_ifReg (s : State) (p : StackPair) (v : Word) : (s.setStackPair p v).ifReg = s.ifReg := by cases p <;> rfl
@[simp] theorem State.setStackPair_faulted (s : State) (p : StackPair) (v : Word) : (s.setStackPair p v).faulted = s.faulted := by cases p <;> rfl
@[simp] theorem State.setStackPair_mem (s : State) (p : StackPair) (v : Word) : (s.setStackPair p v).mem = s.mem := by cases p <;> rfl
@[simp] theorem State.setStackPair_registry (s : State) (p : StackPair) (v : Word) : (s.setStackPair p v).registry = s.registry := by cases p <;> rfl
@[simp] theorem State.setStackPair_nextHandle (s : State) (p : StackPair) (v : Word) : (s.setStackPair p v).nextHandle = s.nextHandle := by cases p <;> rfl
@[simp] theorem State.setStackPair_devices (s : State) (p : StackPair) (v : Word) : (s.setStackPair p v).devices = s.devices := by cases p <;> rfl
@[simp] theorem State.setStackPair_config (s : State) (p : StackPair) (v : Word) : (s.setStackPair p v).config = s.config := by cases p <;> rfl
@[simp] theorem State.setStackPair_cycles (s : State) (p : StackPair) (v : Word) : (s.setStackPair p v).cycles = s.cycles := by cases p <;> rfl

/-! ### `poke` -/

@[simp] theorem State.poke_rA (s : State) (a : Word) (v : Byte) : (s.poke a v).rA = s.rA := rfl
@[simp] theorem State.poke_f (s : State) (a : Word) (v : Byte) : (s.poke a v).f = s.f := rfl
@[simp] theorem State.poke_rB (s : State) (a : Word) (v : Byte) : (s.poke a v).rB = s.rB := rfl
@[simp] theorem State.poke_rC (s : State) (a : Word) (v : Byte) : (s.poke a v).rC = s.rC := rfl
@[simp] theorem State.poke_rD (s : State) (a : Word) (v : Byte) : (s.poke a v).rD = s.rD := rfl
@[simp] theorem State.poke_rE (s : State) (a : Word) (v : Byte) : (s.poke a v).rE = s.rE := rfl
@[simp] theorem State.poke_rH (s : State) (a : Word) (v : Byte) : (s.poke a v).rH = s.rH := rfl
@[simp] theorem State.poke_rL (s : State) (a : Word) (v : Byte) : (s.poke a v).rL = s.rL := rfl
@[simp] theorem State.poke_sp (s : State) (a : Word) (v : Byte) : (s.poke a v).sp = s.sp := rfl
@[simp] theorem State.poke_pc (s : State) (a : Word) (v : Byte) : (s.poke a v).pc = s.pc := rfl
@[simp] theorem State.poke_ime (s : State) (a : Word) (v : Byte) : (s.poke a v).ime = s.ime := rfl
@[simp] theorem State.poke_imeScheduled (s : State) (a : Word) (v : Byte) : (s.poke a v).imeScheduled = s.imeScheduled := rfl
@[simp] theorem State.poke_mode (s : State) (a : Word) (v : Byte) : (s.poke a v).mode = s.mode := rfl
@[simp] theorem State.poke_ieReg (s : State) (a : Word) (v : Byte) : (s.poke a v).ieReg = s.ieReg := rfl
@[simp] theorem State.poke_ifReg (s : State) (a : Word) (v : Byte) : (s.poke a v).ifReg = s.ifReg := rfl
@[simp] theorem State.poke_faulted (s : State) (a : Word) (v : Byte) : (s.poke a v).faulted = s.faulted := rfl
@[simp] theorem State.poke_mem (s : State) (a : Word) (v : Byte) : (s.poke a v).mem = Memory.write s.mem a.toNat v := rfl
@[simp] theorem State.poke_registry (s : State) (a : Word) (v : Byte) : (s.poke a v).registry = s.registry := rfl
@[simp] theorem State.poke_nextHandle (s : State) (a : Word) (v : Byte) : (s.poke a v).nextHandle = s.nextHandle := rfl
@[simp] theorem State.poke_devices (s : State) (a : Word) (v : Byte) : (s.poke a v).devices = s.devices := rfl
@[simp] theorem State.poke_config (s : State) (a : Word) (v : Byte) : (s.poke a v).config = s.config := rfl
@[simp] theorem State.poke_cycles (s : State) (a : Word) (v : Byte) : (s.poke a v).cycles = s.cycles := rfl

/-! ### `moveSp` -/

@[simp] theorem State.moveSp_rA (s : State) (k : Word) : (s.moveSp k).rA = s.rA := rfl
@[simp] theorem State.moveSp_f (s : State) (k : Word) : (s.moveSp k).f = s.f := rfl
@[simp] theorem State.moveSp_rB (s : State) (k : Word) : (s.moveSp k).rB = s.rB := rfl
@[simp] theorem State.moveSp_rC (s : State) (k : Word) : (s.moveSp k).rC = s.rC := rfl
@[simp] theorem State.moveSp_rD (s : State) (k : Word) : (s.moveSp k).rD = s.rD := rfl
@[simp] theorem State.moveSp_rE (s : State) (k : Word) : (s.moveSp k).rE = s.rE := rfl
@[simp] theorem State.moveSp_rH (s : State) (k : Word) : (s.moveSp k).rH = s.rH := rfl
@[simp] theorem State.moveSp_rL (s : State) (k : Word) : (s.moveSp k).rL = s.rL := rfl
@[simp] theorem State.moveSp_sp (s : State) (k : Word) : (s.moveSp k).sp = s.sp + k := rfl
@[simp] theorem State.moveSp_pc (s : State) (k : Word) : (s.moveSp k).pc = s.pc := rfl
@[simp] theorem State.moveSp_ime (s : State) (k : Word) : (s.moveSp k).ime = s.ime := rfl
@[simp] theorem State.moveSp_imeScheduled (s : State) (k : Word) : (s.moveSp k).imeScheduled = s.imeScheduled := rfl
@[simp] theorem State.moveSp_mode (s : State) (k : Word) : (s.moveSp k).mode = s.mode := rfl
@[simp] theorem State.moveSp_ieReg (s : State) (k : Word) : (s.moveSp k).ieReg = s.ieReg := rfl
@[simp] theorem State.moveSp_ifReg (s : State) (k : Word) : (s.moveSp k).ifReg = s.ifReg := rfl
@[simp] theorem State.moveSp_faulted (s : State) (k : Word) : (s.moveSp k).faulted = s.faulted := rfl
@[simp] theorem State.moveSp_mem (s : State) (k : Word) : (s.moveSp k).mem = s.mem := rfl
@[simp] theorem State.moveSp_registry (s : State) (k : Word) : (s.moveSp k).registry = s.registry := rfl
@[simp] theorem State.moveSp_nextHandle (s : State) (k : Word) : (s.moveSp k).nextHandle = s.nextHandle := rfl
@[simp] theorem State.moveSp_devices (s : State) (k : Word) : (s.moveSp k).devices = s.devices := rfl
@[simp] theorem State.moveSp_config (s : State) (k : Word) : (s.moveSp k).config = s.config := rfl
@[simp] theorem State.moveSp_cycles (s : State) (k : Word) : (s.moveSp k).cycles = s.cycles := rfl

/-! ### `moveHL` -/

@[simp] theorem State.moveHL_rA (s : State) (k : Word) : (s.moveHL k).rA = s.rA := rfl
@[simp] theorem State.moveHL_f (s : State) (k : Word) : (s.moveHL k).f = s.f := rfl
@[simp] theorem State.moveHL_rB (s : State) (k : Word) : (s.moveHL k).rB = s.rB := rfl
@[simp] theorem State.moveHL_rC (s : State) (k : Word) : (s.moveHL k).rC = s.rC := rfl
@[simp] theorem State.moveHL_rD (s : State) (k : Word) : (s.moveHL k).rD = s.rD := rfl
@[simp] theorem State.moveHL_rE (s : State) (k : Word) : (s.moveHL k).rE = s.rE := rfl
@[simp] theorem State.moveHL_rH (s : State) (k : Word) : (s.moveHL k).rH = hiByte (s.hl + k) := rfl
@[simp] theorem State.moveHL_rL (s : State) (k : Word) : (s.moveHL k).rL = loByte (s.hl + k) := rfl
@[simp] theorem State.moveHL_sp (s : State) (k : Word) : (s.moveHL k).sp = s.sp := rfl
@[simp] theorem State.moveHL_pc (s : State) (k : Word) : (s.moveHL k).pc = s.pc := rfl
@[simp] theorem State.moveHL_ime (s : State) (k : Word) : (s.moveHL k).ime = s.ime := rfl
@[simp] theorem State.moveHL_imeScheduled (s : State) (k : Word) : (s.moveHL k).imeScheduled = s.imeScheduled := rfl
@[simp] theorem State.moveHL_mode (s : State) (k : Word) : (s.moveHL k).mode = s.mode := rfl
@[simp] theorem State.moveHL_ieReg (s : State) (k : Word) : (s.moveHL k).ieReg = s.ieReg := rfl
@[simp] theorem State.moveHL_ifReg (s : State) (k : Word) : (s.moveHL k).ifReg = s.ifReg := rfl
@[simp] theorem State.moveHL_faulted (s : State) (k : Word) : (s.moveHL k).faulted = s.faulted := rfl
@[simp] theorem State.moveHL_mem (s : State) (k : Word) : (s.moveHL k).mem = s.mem := rfl
@[simp] theorem State.moveHL_registry (s : State) (k : Word) : (s.moveHL k).registry = s.registry := rfl
@[simp] theorem State.moveHL_nextHandle (s : State) (k : Word) : (s.moveHL k).nextHandle = s.nextHandle := rfl
@[simp] theorem State.moveHL_devices (s : State) (k : Word) : (s.moveHL k).devices = s.devices := rfl
@[simp] theorem State.moveHL_config (s : State) (k : Word) : (s.moveHL k).config = s.config := rfl
@[simp] theorem State.moveHL_cycles (s : State) (k : Word) : (s.moveHL k).cycles = s.cycles := rfl

/-! ### `markFaulted` -/

@[simp] theorem State.markFaulted_rA (s : State) : (s.markFaulted).rA = s.rA := rfl
@[simp] theorem State.markFaulted_f (s : State) : (s.markFaulted).f = s.f := rfl
@[simp] theorem State.markFaulted_rB (s : State) : (s.markFaulted).rB = s.rB := rfl
@[simp] theorem State.markFaulted_rC (s : State) : (s.markFaulted).rC = s.rC := rfl
@[simp] theorem State.markFaulted_rD (s : State) : (s.markFaulted).rD = s.rD := rfl
@[simp] theorem State.markFaulted_rE (s : State) : (s.markFaulted).rE = s.rE := rfl
@[simp] theorem State.markFaulted_rH (s : State) : (s.markFaulted).rH = s.rH := rfl
@[simp] theorem State.markFaulted_rL (s : State) : (s.markFaulted).rL = s.rL := rfl
@[simp] theorem State.markFaulted_sp (s : State) : (s.markFaulted).sp = s.sp := rfl
@[simp] theorem State.markFaulted_pc (s : State) : (s.markFaulted).pc = s.pc := rfl
@[simp] theorem State.markFaulted_ime (s : State) : (s.markFaulted).ime = s.ime := rfl
@[simp] theorem State.markFaulted_imeScheduled (s : State) : (s.markFaulted).imeScheduled = s.imeScheduled := rfl
@[simp] theorem State.markFaulted_mode (s : State) : (s.markFaulted).mode = s.mode := rfl
@[simp] theorem State.markFaulted_ieReg (s : State) : (s.markFaulted).ieReg = s.ieReg := rfl
@[simp] theorem State.markFaulted_ifReg (s : State) : (s.markFaulted).ifReg = s.ifReg := rfl
@[simp] theorem State.markFaulted_faulted (s : State) : (s.markFaulted).faulted = true := rfl
@[simp] theorem State.markFaulted_mem (s : State) : (s.markFaulted).mem = s.mem := rfl
@[simp] theorem State.markFaulted_registry (s : State) : (s.markFaulted).registry = s.registry := rfl
@[simp] theorem State.markFaulted_nextHandle (s : State) : (s.markFaulted).nextHandle = s.nextHandle := rfl
@[simp] theorem State.markFaulted_devices (s : State) : (s.markFaulted).devices = s.devices := rfl
@[simp] theorem State.markFaulted_config (s : State) : (s.markFaulted).config = s.config := rfl
@[simp] theorem State.markFaulted_cycles (s : State) : (s.markFaulted).cycles = s.cycles := rfl

/-! ### `setDeviceState` -/

@[simp] theorem State.setDeviceState_rA (s : State) (i : Nat) (st : DeviceState) : (s.setDeviceState i st).rA = s.rA := rfl
@[simp] theorem State.setDeviceState_f (s : State) (i : Nat) (st : DeviceState) : (s.setDeviceState i st).f = s.f := rfl
@[simp] theorem State.setDeviceState_rB (s : State) (i : Nat) (st : DeviceState) : (s.setDeviceState i st).rB = s.rB := rfl
@[simp] theorem State.setDeviceState_rC (s : State) (i : Nat) (st : DeviceState) : (s.setDeviceState i st).rC = s.rC := rfl
@[simp] theorem State.setDeviceState_rD (s : State) (i : Nat) (st : DeviceState) : (s.setDeviceState i st).rD = s.rD := rfl
@[simp] theorem State.setDeviceState_rE (s : State) (i : Nat) (st : DeviceState) : (s.setDeviceState i st).rE = s.rE := rfl
@[simp] theorem State.setDeviceState_rH (s : State) (i : Nat) (st : DeviceState) : (s.setDeviceState i st).rH = s.rH := rfl
@[simp] theorem State.setDeviceState_rL (s : State) (i : Nat) (st : DeviceState) : (s.setDeviceState i st).rL = s.rL := rfl
@[simp] theorem State.setDeviceState_sp (s : State) (i : Nat) (st : DeviceState) : (s.setDeviceState i st).sp = s.sp := rfl
@[simp] theorem State.setDeviceState_pc (s : State) (i : Nat) (st : DeviceState) : (s.setDeviceState i st).pc = s.pc := rfl
@[simp] theorem State.setDeviceState_ime (s : State) (i : Nat) (st : DeviceState) : (s.setDeviceState i st).ime = s.ime := rfl
@[simp] theorem State.setDeviceState_imeScheduled (s : State) (i : Nat) (st : DeviceState) : (s.setDeviceState i st).imeScheduled = s.imeScheduled := rfl
@[simp] theorem State.setDeviceState_mode (s : State) (i : Nat) (st : DeviceState) : (s.setDeviceState i st).mode = s.mode := rfl
@[simp] theorem State.setDeviceState_ieReg (s : State) (i : Nat) (st : DeviceState) : (s.setDeviceState i st).ieReg = s.ieReg := rfl
@[simp] theorem State.setDeviceState_ifReg (s : State) (i : Nat) (st : DeviceState) : (s.setDeviceState i st).ifReg = s.ifReg := rfl
@[simp] theorem State.setDeviceState_faulted (s : State) (i : Nat) (st : DeviceState) : (s.setDeviceState i st).faulted = s.faulted := rfl
@[simp] theorem State.setDeviceState_mem (s : State) (i : Nat) (st : DeviceState) : (s.setDeviceState i st).mem = s.mem := rfl
@[simp] theorem State.setDeviceState_registry (s : State) (i : Nat) (st : DeviceState) : (s.setDeviceState i st).registry = s.registry := rfl
@[simp] theorem State.setDeviceState_nextHandle (s : State) (i : Nat) (st : DeviceState) : (s.setDeviceState i st).nextHandle = s.nextHandle := rfl
@[simp] theorem State.setDeviceState_config (s : State) (i : Nat) (st : DeviceState) : (s.setDeviceState i st).config = s.config := rfl
@[simp] theorem State.setDeviceState_cycles (s : State) (i : Nat) (st : DeviceState) : (s.setDeviceState i st).cycles = s.cycles := rfl

/-! ### `disableInterrupts` -/

@[simp] theorem State.disableInterrupts_rA (s : State) : (s.disableInterrupts).rA = s.rA := rfl
@[simp] theorem State.disableInterrupts_f (s : State) : (s.disableInterrupts).f = s.f := rfl
@[simp] theorem State.disableInterrupts_rB (s : State) : (s.disableInterrupts).rB = s.rB := rfl
@[simp] theorem State.disableInterrupts_rC (s : State) : (s.disableInterrupts).rC = s.rC := rfl
@[simp] theorem State.disableInterrupts_rD (s : State) : (s.disableInterrupts).rD = s.rD := rfl
@[simp] theorem State.disableInterrupts_rE (s : State) : (s.disableInterrupts).rE = s.rE := rfl
@[simp] theorem State.disableInterrupts_rH (s : State) : (s.disableInterrupts).rH = s.rH := rfl
@[simp] theorem State.disableInterrupts_rL (s : State) : (s.disableInterrupts).rL = s.rL := rfl
@[simp] theorem State.disableInterrupts_sp (s : State) : (s.disableInterrupts).sp = s.sp := rfl
@[simp] theorem State.disableInterrupts_pc (s : State) : (s.disableInterrupts).pc = s.pc := rfl
@[simp] theorem State.disableInterrupts_ime (s : State) : (s.disableInterrupts).ime = false := rfl
@[simp] theorem State.disableInterrupts_imeScheduled (s : State) : (s.disableInterrupts).imeScheduled = false := rfl
@[simp] theorem State.disableInterrupts_mode (s : State) : (s.disableInterrupts).mode = s.mode := rfl
@[simp] theorem State.disableInterrupts_ieReg (s : State) : (s.disableInterrupts).ieReg = s.ieReg := rfl
@[simp] theorem State.disableInterrupts_ifReg (s : State) : (s.disableInterrupts).ifReg = s.ifReg := rfl
@[simp] theorem State.disableInterrupts_faulted (s : State) : (s.disableInterrupts).faulted = s.faulted := rfl
@[simp] theorem State.disableInterrupts_mem (s : State) : (s.disableInterrupts).mem = s.mem := rfl
@[simp] theorem State.disableInterrupts_registry (s : State) : (s.disableInterrupts).registry = s.registry := rfl
@[simp] theorem State.disableInterrupts_nextHandle (s : State) : (s.disableInterrupts).nextHandle = s.nextHandle := rfl
@[simp] theorem State.disableInterrupts_devices (s : State) : (s.disableInterrupts).devices = s.devices := rfl
@[simp] theorem State.disableInterrupts_config (s : State) : (s.disableInterrupts).config = s.config := rfl
@[simp] theorem State.disableInterrupts_cycles (s : State) : (s.disableInterrupts).cycles = s.cycles := rfl

/-! ### `enableInterruptsNow` -/

@[simp] theorem State.enableInterruptsNow_rA (s : State) : (s.enableInterruptsNow).rA = s.rA := rfl
@[simp] theorem State.enableInterruptsNow_f (s : State) : (s.enableInterruptsNow).f = s.f := rfl
@[simp] theorem State.enableInterruptsNow_rB (s : State) : (s.enableInterruptsNow).rB = s.rB := rfl
@[simp] theorem State.enableInterruptsNow_rC (s : State) : (s.enableInterruptsNow).rC = s.rC := rfl
@[simp] theorem State.enableInterruptsNow_rD (s : State) : (s.enableInterruptsNow).rD = s.rD := rfl
@[simp] theorem State.enableInterruptsNow_rE (s : State) : (s.enableInterruptsNow).rE = s.rE := rfl
@[simp] theorem State.enableInterruptsNow_rH (s : State) : (s.enableInterruptsNow).rH = s.rH := rfl
@[simp] theorem State.enableInterruptsNow_rL (s : State) : (s.enableInterruptsNow).rL = s.rL := rfl
@[simp] theorem State.enableInterruptsNow_sp (s : State) : (s.enableInterruptsNow).sp = s.sp := rfl
@[simp] theorem State.enableInterruptsNow_pc (s : State) : (s.enableInterruptsNow).pc = s.pc := rfl
@[simp] theorem State.enableInterruptsNow_ime (s : State) : (s.enableInterruptsNow).ime = true := rfl
@[simp] theorem State.enableInterruptsNow_imeScheduled (s : State) : (s.enableInterruptsNow).imeScheduled = false := rfl
@[simp] theorem State.enableInterruptsNow_mode (s : State) : (s.enableInterruptsNow).mode = s.mode := rfl
@[simp] theorem State.enableInterruptsNow_ieReg (s : State) : (s.enableInterruptsNow).ieReg = s.ieReg := rfl
@[simp] theorem State.enableInterruptsNow_ifReg (s : State) : (s.enableInterruptsNow).ifReg = s.ifReg := rfl
@[simp] theorem State.enableInterruptsNow_faulted (s : State) : (s.enableInterruptsNow).faulted = s.faulted := rfl
@[simp] theorem State.enableInterruptsNow_mem (s : State) : (s.enableInterruptsNow).mem = s.mem := rfl
@[simp] theorem State.enableInterruptsNow_registry (s : State) : (s.enableInterruptsNow).registry = s.registry := rfl
@[simp] theorem State.enableInterruptsNow_nextHandle (s : State) : (s.enableInterruptsNow).nextHandle = s.nextHandle := rfl
@[simp] theorem State.enableInterruptsNow_devices (s : State) : (s.enableInterruptsNow).devices = s.devices := rfl
@[simp] theorem State.enableInterruptsNow_config (s : State) : (s.enableInterruptsNow).config = s.config := rfl
@[simp] theorem State.enableInterruptsNow_cycles (s : State) : (s.enableInterruptsNow).cycles = s.cycles := rfl

/-! ### `request` -/

@[simp] theorem State.request_rA (s : State) (l : Line) : (s.request l).rA = s.rA := rfl
@[simp] theorem State.request_f (s : State) (l : Line) : (s.request l).f = s.f := rfl
@[simp] theorem State.request_rB (s : State) (l : Line) : (s.request l).rB = s.rB := rfl
@[simp] theorem State.request_rC (s : State) (l : Line) : (s.request l).rC = s.rC := rfl
@[simp] theorem State.request_rD (s : State) (l : Line) : (s.request l).rD = s.rD := rfl
@[simp] theorem State.request_rE (s : State) (l : Line) : (s.request l).rE = s.rE := rfl
@[simp] theorem State.request_rH (s : State) (l : Line) : (s.request l).rH = s.rH := rfl
@[simp] theorem State.request_rL (s : State) (l : Line) : (s.request l).rL = s.rL := rfl
@[simp] theorem State.request_sp (s : State) (l : Line) : (s.request l).sp = s.sp := rfl
@[simp] theorem State.request_pc (s : State) (l : Line) : (s.request l).pc = s.pc := rfl
@[simp] theorem State.request_ime (s : State) (l : Line) : (s.request l).ime = s.ime := rfl
@[simp] theorem State.request_imeScheduled (s : State) (l : Line) : (s.request l).imeScheduled = s.imeScheduled := rfl
@[simp] theorem State.request_mode (s : State) (l : Line) : (s.request l).mode = s.mode := rfl
@[simp] theorem State.request_ieReg (s : State) (l : Line) : (s.request l).ieReg = s.ieReg := rfl
@[simp] theorem State.request_ifReg (s : State) (l : Line) : (s.request l).ifReg = s.ifReg ||| 1#5 <<< lineIndex l := rfl
@[simp] theorem State.request_faulted (s : State) (l : Line) : (s.request l).faulted = s.faulted := rfl
@[simp] theorem State.request_mem (s : State) (l : Line) : (s.request l).mem = s.mem := rfl
@[simp] theorem State.request_registry (s : State) (l : Line) : (s.request l).registry = s.registry := rfl
@[simp] theorem State.request_nextHandle (s : State) (l : Line) : (s.request l).nextHandle = s.nextHandle := rfl
@[simp] theorem State.request_devices (s : State) (l : Line) : (s.request l).devices = s.devices := rfl
@[simp] theorem State.request_config (s : State) (l : Line) : (s.request l).config = s.config := rfl
@[simp] theorem State.request_cycles (s : State) (l : Line) : (s.request l).cycles = s.cycles := rfl

/-! ### `clearRequest` -/

@[simp] theorem State.clearRequest_rA (s : State) (l : Line) : (s.clearRequest l).rA = s.rA := rfl
@[simp] theorem State.clearRequest_f (s : State) (l : Line) : (s.clearRequest l).f = s.f := rfl
@[simp] theorem State.clearRequest_rB (s : State) (l : Line) : (s.clearRequest l).rB = s.rB := rfl
@[simp] theorem State.clearRequest_rC (s : State) (l : Line) : (s.clearRequest l).rC = s.rC := rfl
@[simp] theorem State.clearRequest_rD (s : State) (l : Line) : (s.clearRequest l).rD = s.rD := rfl
@[simp] theorem State.clearRequest_rE (s : State) (l : Line) : (s.clearRequest l).rE = s.rE := rfl
@[simp] theorem State.clearRequest_rH (s : State) (l : Line) : (s.clearRequest l).rH = s.rH := rfl
@[simp] theorem State.clearRequest_rL (s : State) (l : Line) : (s.clearRequest l).rL = s.rL := rfl
@[simp] theorem State.clearRequest_sp (s : State) (l : Line) : (s.clearRequest l).sp = s.sp := rfl
@[simp] theorem State.clearRequest_pc (s : State) (l : Line) : (s.clearRequest l).pc = s.pc := rfl
@[simp] theorem State.clearRequest_ime (s : State) (l : Line) : (s.clearRequest l).ime = s.ime := rfl
@[simp] theorem State.clearRequest_imeScheduled (s : State) (l : Line) : (s.clearRequest l).imeScheduled = s.imeScheduled := rfl
@[simp] theorem State.clearRequest_mode (s : State) (l : Line) : (s.clearRequest l).mode = s.mode := rfl
@[simp] theorem State.clearRequest_ieReg (s : State) (l : Line) : (s.clearRequest l).ieReg = s.ieReg := rfl
@[simp] theorem State.clearRequest_ifReg (s : State) (l : Line) : (s.clearRequest l).ifReg = s.ifReg &&& ~~~(1#5 <<< lineIndex l) := rfl
@[simp] theorem State.clearRequest_faulted (s : State) (l : Line) : (s.clearRequest l).faulted = s.faulted := rfl
@[simp] theorem State.clearRequest_mem (s : State) (l : Line) : (s.clearRequest l).mem = s.mem := rfl
@[simp] theorem State.clearRequest_registry (s : State) (l : Line) : (s.clearRequest l).registry = s.registry := rfl
@[simp] theorem State.clearRequest_nextHandle (s : State) (l : Line) : (s.clearRequest l).nextHandle = s.nextHandle := rfl
@[simp] theorem State.clearRequest_devices (s : State) (l : Line) : (s.clearRequest l).devices = s.devices := rfl
@[simp] theorem State.clearRequest_config (s : State) (l : Line) : (s.clearRequest l).config = s.config := rfl
@[simp] theorem State.clearRequest_cycles (s : State) (l : Line) : (s.clearRequest l).cycles = s.cycles := rfl

/-! ### `applyAlu` -/

@[simp] theorem State.applyAlu_rA (s : State) (op : Alu) (v : Byte) : (s.applyAlu op v).rA = (op.run s.rA v s.f).1 := rfl
@[simp] theorem State.applyAlu_f (s : State) (op : Alu) (v : Byte) : (s.applyAlu op v).f = (op.run s.rA v s.f).2 := rfl
@[simp] theorem State.applyAlu_rB (s : State) (op : Alu) (v : Byte) : (s.applyAlu op v).rB = s.rB := rfl
@[simp] theorem State.applyAlu_rC (s : State) (op : Alu) (v : Byte) : (s.applyAlu op v).rC = s.rC := rfl
@[simp] theorem State.applyAlu_rD (s : State) (op : Alu) (v : Byte) : (s.applyAlu op v).rD = s.rD := rfl
@[simp] theorem State.applyAlu_rE (s : State) (op : Alu) (v : Byte) : (s.applyAlu op v).rE = s.rE := rfl
@[simp] theorem State.applyAlu_rH (s : State) (op : Alu) (v : Byte) : (s.applyAlu op v).rH = s.rH := rfl
@[simp] theorem State.applyAlu_rL (s : State) (op : Alu) (v : Byte) : (s.applyAlu op v).rL = s.rL := rfl
@[simp] theorem State.applyAlu_sp (s : State) (op : Alu) (v : Byte) : (s.applyAlu op v).sp = s.sp := rfl
@[simp] theorem State.applyAlu_pc (s : State) (op : Alu) (v : Byte) : (s.applyAlu op v).pc = s.pc := rfl
@[simp] theorem State.applyAlu_ime (s : State) (op : Alu) (v : Byte) : (s.applyAlu op v).ime = s.ime := rfl
@[simp] theorem State.applyAlu_imeScheduled (s : State) (op : Alu) (v : Byte) : (s.applyAlu op v).imeScheduled = s.imeScheduled := rfl
@[simp] theorem State.applyAlu_mode (s : State) (op : Alu) (v : Byte) : (s.applyAlu op v).mode = s.mode := rfl
@[simp] theorem State.applyAlu_ieReg (s : State) (op : Alu) (v : Byte) : (s.applyAlu op v).ieReg = s.ieReg := rfl
@[simp] theorem State.applyAlu_ifReg (s : State) (op : Alu) (v : Byte) : (s.applyAlu op v).ifReg = s.ifReg := rfl
@[simp] theorem State.applyAlu_faulted (s : State) (op : Alu) (v : Byte) : (s.applyAlu op v).faulted = s.faulted := rfl
@[simp] theorem State.applyAlu_mem (s : State) (op : Alu) (v : Byte) : (s.applyAlu op v).mem = s.mem := rfl
@[simp] theorem State.applyAlu_registry (s : State) (op : Alu) (v : Byte) : (s.applyAlu op v).registry = s.registry := rfl
@[simp] theorem State.applyAlu_nextHandle (s : State) (op : Alu) (v : Byte) : (s.applyAlu op v).nextHandle = s.nextHandle := rfl
@[simp] theorem State.applyAlu_devices (s : State) (op : Alu) (v : Byte) : (s.applyAlu op v).devices = s.devices := rfl
@[simp] theorem State.applyAlu_config (s : State) (op : Alu) (v : Byte) : (s.applyAlu op v).config = s.config := rfl
@[simp] theorem State.applyAlu_cycles (s : State) (op : Alu) (v : Byte) : (s.applyAlu op v).cycles = s.cycles := rfl

/-! ### `advance` -/

@[simp] theorem State.advance_rA (s : State) (n : Nat) : (s.advance n).rA = s.rA := rfl
@[simp] theorem State.advance_f (s : State) (n : Nat) : (s.advance n).f = s.f := rfl
@[simp] theorem State.advance_rB (s : State) (n : Nat) : (s.advance n).rB = s.rB := rfl
@[simp] theorem State.advance_rC (s : State) (n : Nat) : (s.advance n).rC = s.rC := rfl
@[simp] theorem State.advance_rD (s : State) (n : Nat) : (s.advance n).rD = s.rD := rfl
@[simp] theorem State.advance_rE (s : State) (n : Nat) : (s.advance n).rE = s.rE := rfl
@[simp] theorem State.advance_rH (s : State) (n : Nat) : (s.advance n).rH = s.rH := rfl
@[simp] theorem State.advance_rL (s : State) (n : Nat) : (s.advance n).rL = s.rL := rfl
@[simp] theorem State.advance_sp (s : State) (n : Nat) : (s.advance n).sp = s.sp := rfl
@[simp] theorem State.advance_pc (s : State) (n : Nat) : (s.advance n).pc = s.pc + BitVec.ofNat 16 n := rfl
@[simp] theorem State.advance_ime (s : State) (n : Nat) : (s.advance n).ime = s.ime := rfl
@[simp] theorem State.advance_imeScheduled (s : State) (n : Nat) : (s.advance n).imeScheduled = s.imeScheduled := rfl
@[simp] theorem State.advance_mode (s : State) (n : Nat) : (s.advance n).mode = s.mode := rfl
@[simp] theorem State.advance_ieReg (s : State) (n : Nat) : (s.advance n).ieReg = s.ieReg := rfl
@[simp] theorem State.advance_ifReg (s : State) (n : Nat) : (s.advance n).ifReg = s.ifReg := rfl
@[simp] theorem State.advance_faulted (s : State) (n : Nat) : (s.advance n).faulted = s.faulted := rfl
@[simp] theorem State.advance_mem (s : State) (n : Nat) : (s.advance n).mem = s.mem := rfl
@[simp] theorem State.advance_registry (s : State) (n : Nat) : (s.advance n).registry = s.registry := rfl
@[simp] theorem State.advance_nextHandle (s : State) (n : Nat) : (s.advance n).nextHandle = s.nextHandle := rfl
@[simp] theorem State.advance_devices (s : State) (n : Nat) : (s.advance n).devices = s.devices := rfl
@[simp] theorem State.advance_config (s : State) (n : Nat) : (s.advance n).config = s.config := rfl
@[simp] theorem State.advance_cycles (s : State) (n : Nat) : (s.advance n).cycles = s.cycles := rfl

/-! ### `readyToFetch` -/

@[simp] theorem State.readyToFetch_rA (s : State) : (s.readyToFetch).rA = s.rA := rfl
@[simp] theorem State.readyToFetch_f (s : State) : (s.readyToFetch).f = s.f := rfl
@[simp] theorem State.readyToFetch_rB (s : State) : (s.readyToFetch).rB = s.rB := rfl
@[simp] theorem State.readyToFetch_rC (s : State) : (s.readyToFetch).rC = s.rC := rfl
@[simp] theorem State.readyToFetch_rD (s : State) : (s.readyToFetch).rD = s.rD := rfl
@[simp] theorem State.readyToFetch_rE (s : State) : (s.readyToFetch).rE = s.rE := rfl
@[simp] theorem State.readyToFetch_rH (s : State) : (s.readyToFetch).rH = s.rH := rfl
@[simp] theorem State.readyToFetch_rL (s : State) : (s.readyToFetch).rL = s.rL := rfl
@[simp] theorem State.readyToFetch_sp (s : State) : (s.readyToFetch).sp = s.sp := rfl
@[simp] theorem State.readyToFetch_pc (s : State) : (s.readyToFetch).pc = s.pc := rfl
@[simp] theorem State.readyToFetch_ime (s : State) : (s.readyToFetch).ime = s.ime := rfl
@[simp] theorem State.readyToFetch_imeScheduled (s : State) : (s.readyToFetch).imeScheduled = s.imeScheduled := rfl
@[simp] theorem State.readyToFetch_mode (s : State) : (s.readyToFetch).mode = .running := rfl
@[simp] theorem State.readyToFetch_ieReg (s : State) : (s.readyToFetch).ieReg = s.ieReg := rfl
@[simp] theorem State.readyToFetch_ifReg (s : State) : (s.readyToFetch).ifReg = s.ifReg := rfl
@[simp] theorem State.readyToFetch_faulted (s : State) : (s.readyToFetch).faulted = false := rfl
@[simp] theorem State.readyToFetch_mem (s : State) : (s.readyToFetch).mem = s.mem := rfl
@[simp] theorem State.readyToFetch_registry (s : State) : (s.readyToFetch).registry = s.registry := rfl
@[simp] theorem State.readyToFetch_nextHandle (s : State) : (s.readyToFetch).nextHandle = s.nextHandle := rfl
@[simp] theorem State.readyToFetch_devices (s : State) : (s.readyToFetch).devices = s.devices := rfl
@[simp] theorem State.readyToFetch_config (s : State) : (s.readyToFetch).config = s.config := rfl
@[simp] theorem State.readyToFetch_cycles (s : State) : (s.readyToFetch).cycles = s.cycles := rfl

/-! ### Registers and pairs -/

@[simp] theorem State.getR_setR_self (s : State) (r : Reg8) (v : Byte) : (s.setR r v).getR r = v := by cases r <;> rfl

@[simp] theorem State.getR_setR_ne (s : State) (r r' : Reg8) (v : Byte) (h : r' ≠ r) : (s.setR r v).getR r' = s.getR r' := by
  cases r <;> cases r' <;> first | rfl | exact absurd rfl h

@[simp] theorem State.getR_charge (s : State) (r : Reg8) (n : Nat) : (s.charge n).getR r = s.getR r := by cases r <;> rfl

@[simp] theorem State.getR_setF (s : State) (r : Reg8) (g : Flags) : (s.setF g).getR r = s.getR r := by cases r <;> rfl

/-- The halves of a word joined again. -/
@[simp] theorem joinBytes_hi_lo (w : Word) : joinBytes (hiByte w) (loByte w) = w := by
  apply BitVec.eq_of_toNat_eq
  simp only [joinBytes, hiByte, loByte, BitVec.toNat_append, BitVec.extractLsb'_toNat, Nat.shiftRight_zero]
  rw [← Nat.shiftLeft_add_eq_or_of_lt (by omega)]
  simp only [Nat.shiftRight_eq_div_pow, Nat.shiftLeft_eq]
  have := w.isLt
  omega

@[simp] theorem hiByte_joinBytes (h l : Byte) : hiByte (joinBytes h l) = h := by
  apply BitVec.eq_of_toNat_eq
  simp only [joinBytes, hiByte, BitVec.toNat_append, BitVec.extractLsb'_toNat]
  rw [← Nat.shiftLeft_add_eq_or_of_lt (by omega)]
  simp only [Nat.shiftRight_eq_div_pow, Nat.shiftLeft_eq]
  have := h.isLt
  have := l.isLt
  omega

@[simp] theorem loByte_joinBytes (h l : Byte) : loByte (joinBytes h l) = l := by
  apply BitVec.eq_of_toNat_eq
  simp only [joinBytes, loByte, BitVec.toNat_append, BitVec.extractLsb'_toNat, Nat.shiftRight_zero]
  rw [← Nat.shiftLeft_add_eq_or_of_lt (by omega)]
  simp only [Nat.shiftLeft_eq]
  have := l.isLt
  omega

/-- The value of a joined pair of bytes. -/
theorem joinBytes_toNat (h l : Byte) : (joinBytes h l).toNat = h.toNat * 256 + l.toNat := by
  simp only [joinBytes, BitVec.toNat_append]
  rw [← Nat.shiftLeft_add_eq_or_of_lt (by omega), Nat.shiftLeft_eq]

@[simp] theorem State.hl_setHL (s : State) (v : Word) : (s.setHL v).hl = v := by simp [State.hl]

@[simp] theorem State.getPair_setPair_self (s : State) (p : Pair) (v : Word) : (s.setPair p v).getPair p = v := by
  cases p <;> simp [State.getPair, State.setPair, State.bc, State.de, State.hl]

/-- F as a byte keeps the four booleans. -/
@[simp] theorem Flags.ofByte_toByte (g : Flags) : Flags.ofByte g.toByte = g := by
  obtain ⟨z, n, h, c⟩ := g
  cases z <;> cases n <;> cases h <;> cases c <;> rfl

end Sys2Proof.Machine
end

