-- ==== Sys2Proof/Laws/Ops.lean ====
section
/-! SUPPORT. One lemma per shared operation of Machine/Ops.lean: everything it can do. -/

namespace Sys2Proof.Machine

/-! ## Sequencing -/

@[simp] theorem andThen_next {α β : Type} (a : α) (k : α → Host.Outcome β Fault Refusal) :
    andThen (.next a) k = k a := rfl

@[simp] theorem andThen_fault {α β : Type} (r : Fault) (k : α → Host.Outcome β Fault Refusal) :
    andThen (.fault r) k = .fault r := rfl

@[simp] theorem andThen_refused {α β : Type} (r : Refusal) (k : α → Host.Outcome β Fault Refusal) :
    andThen (.refused r) k = .refused r := rfl

theorem andThen_assoc {α β γ : Type} (o : Host.Outcome α Fault Refusal) (k : α → Host.Outcome β Fault Refusal)
    (l : β → Host.Outcome γ Fault Refusal) : andThen (andThen o k) l = andThen o fun a => andThen (k a) l := by
  cases o <;> rfl

/-- A sequence answers a next state only through a next state of its first part. -/
theorem andThen_eq_next {α β : Type} {o : Host.Outcome α Fault Refusal} {k : α → Host.Outcome β Fault Refusal} {b : β} :
    andThen o k = .next b ↔ ∃ a, o = .next a ∧ k a = .next b := by
  cases o <;> simp

/-- A sequence faults in its first part or after it. -/
theorem andThen_eq_fault {α β : Type} {o : Host.Outcome α Fault Refusal} {k : α → Host.Outcome β Fault Refusal}
    {r : Fault} : andThen o k = .fault r ↔ o = .fault r ∨ ∃ a, o = .next a ∧ k a = .fault r := by
  cases o <;> simp

/-- A sequence is refused in its first part or after it. -/
theorem andThen_eq_refused {α β : Type} {o : Host.Outcome α Fault Refusal} {k : α → Host.Outcome β Fault Refusal}
    {r : Refusal} : andThen o k = .refused r ↔ o = .refused r ∨ ∃ a, o = .next a ∧ k a = .refused r := by
  cases o <;> simp

/-! ## What an outcome satisfies -/

/-- The next state satisfies `P`, the fault `Q`, the refusal `R`. -/
def Ends {α : Type} (o : Host.Outcome α Fault Refusal) (P : α → Prop) (Q : Fault → Prop) (R : Refusal → Prop) : Prop :=
  match o with
  | .next a => P a
  | .fault r => Q r
  | .refused r => R r

/-- No refusal. -/
def never (_ : Refusal) : Prop := False

@[simp] theorem ends_next {α : Type} (a : α) (P : α → Prop) (Q : Fault → Prop) (R : Refusal → Prop) :
    Ends (.next a) P Q R ↔ P a := Iff.rfl

@[simp] theorem ends_fault {α : Type} (r : Fault) (P : α → Prop) (Q : Fault → Prop) (R : Refusal → Prop) :
    Ends (.fault r) P Q R ↔ Q r := Iff.rfl

@[simp] theorem ends_refused {α : Type} (r : Refusal) (P : α → Prop) (Q : Fault → Prop) (R : Refusal → Prop) :
    Ends (.refused r) P Q R ↔ R r := Iff.rfl

theorem Ends.andThen {α β : Type} {o : Host.Outcome α Fault Refusal} {k : α → Host.Outcome β Fault Refusal}
    {P : α → Prop} {P' : β → Prop} {Q Q' : Fault → Prop} {R R' : Refusal → Prop} (h : Ends o P Q R)
    (hk : ∀ a, P a → Ends (k a) P' Q' R') (hQ : ∀ r, Q r → Q' r) (hR : ∀ r, R r → R' r) :
    Ends (andThen o k) P' Q' R' := by
  cases o with
  | next a => exact hk a h
  | fault r => exact hQ r h
  | refused r => exact hR r h

theorem Ends.mono {α : Type} {o : Host.Outcome α Fault Refusal} {P P' : α → Prop} {Q Q' : Fault → Prop}
    {R R' : Refusal → Prop} (h : Ends o P Q R) (hP : ∀ a, P a → P' a) (hQ : ∀ r, Q r → Q' r) (hR : ∀ r, R r → R' r) :
    Ends o P' Q' R' := by
  cases o with
  | next a => exact hP a h
  | fault r => exact hQ r h
  | refused r => exact hR r h

/-! ## What no operation of a step changes -/

/-- What every bus access, instruction and interrupt service keeps: the registry, its counter and the parameters, the
kinds of the devices, the record of a fault, the canonical form, and the backing bytes under the controller. -/
structure State.Kept (s t : State) : Prop where
  setup : s.sameSetup t
  kinds : t.devices.map Device.kind = s.devices.map Device.kind
  faulted : t.faulted = s.faulted
  memWf : Memory.wf s.mem = true → Memory.wf t.mem = true
  ifByte : s.controllerFirst = true → t.peek ifAddress = s.peek ifAddress
  ieByte : s.controllerFirst = true → t.peek ieAddress = s.peek ieAddress

theorem State.controllerFirst_of_registry {s t : State} (h : t.registry = s.registry) :
    t.controllerFirst = s.controllerFirst := by simp [State.controllerFirst, h]

theorem State.Kept.refl (s : State) : s.Kept s :=
  ⟨⟨rfl, rfl, rfl⟩, rfl, rfl, id, fun _ => rfl, fun _ => rfl⟩

theorem State.Kept.trans {s t u : State} (h : s.Kept t) (k : t.Kept u) : s.Kept u where
  setup := ⟨k.setup.1.trans h.setup.1, k.setup.2.1.trans h.setup.2.1, k.setup.2.2.trans h.setup.2.2⟩
  kinds := k.kinds.trans h.kinds
  faulted := k.faulted.trans h.faulted
  memWf := fun w => k.memWf (h.memWf w)
  ifByte := fun c => (k.ifByte ((State.controllerFirst_of_registry h.setup.1).trans c)).trans (h.ifByte c)
  ieByte := fun c => (k.ieByte ((State.controllerFirst_of_registry h.setup.1).trans c)).trans (h.ieByte c)

/-- What one bus access changes: memory, the interrupt controller and the devices, no more. -/
structure State.Accessed (s t : State) : Prop where
  kept : s.Kept t
  cpu : s.sameCpu t
  cycles : t.cycles = s.cycles

theorem State.sameCpu.refl (s : State) : s.sameCpu s := by simp [State.sameCpu]

theorem State.sameCpu.trans {s t u : State} (h : s.sameCpu t) (k : t.sameCpu u) : s.sameCpu u := by
  simp only [State.sameCpu] at *
  obtain ⟨h1, h2, h3, h4, h5, h6, h7, h8, h9, h10, h11, h12, h13, h14⟩ := h
  obtain ⟨k1, k2, k3, k4, k5, k6, k7, k8, k9, k10, k11, k12, k13, k14⟩ := k
  simp [*]

theorem State.Accessed.refl (s : State) : s.Accessed s := ⟨.refl s, .refl s, rfl⟩

theorem State.Accessed.trans {s t u : State} (h : s.Accessed t) (k : t.Accessed u) : s.Accessed u :=
  ⟨h.kept.trans k.kept, h.cpu.trans k.cpu, k.cycles.trans h.cycles⟩

/-- A handler's move of its device's state. -/
theorem State.accessed_setDeviceState (s : State) (i : Nat) (st : DeviceState) : s.Accessed (s.setDeviceState i st) where
  kept :=
    { setup := ⟨rfl, rfl, rfl⟩
      kinds := by
        apply List.ext_getElem?
        intro n
        simp only [State.setDeviceState, List.getElem?_map, List.getElem?_modify]
        cases s.devices[n]? with
        | none => rfl
        | some d => by_cases h : i = n <;> simp [h]
      faulted := rfl
      memWf := id
      ifByte := fun _ => rfl
      ieByte := fun _ => rfl }
  cpu := by simp [State.sameCpu]
  cycles := rfl

/-! ## Handlers -/

/-- A handler asked for a read touches nothing but its device. -/
theorem Handler.onRead_accessed (h : Handler) (a : Word) (s : State) :
    s.Accessed (h.onRead a s).2 ∧ (h.onRead a s).2.mem = s.mem ∧ (h.onRead a s).2.ieReg = s.ieReg ∧
      (h.onRead a s).2.ifReg = s.ifReg := by
  cases h with
  | interruptController =>
    simp only [Handler.onRead]
    split
    · exact ⟨.refl s, rfl, rfl, rfl⟩
    · split <;> exact ⟨.refl s, rfl, rfl, rfl⟩
  | device i =>
    simp only [Handler.onRead]
    cases s.devices[i]? with
    | none => exact ⟨.refl s, rfl, rfl, rfl⟩
    | some d => exact ⟨s.accessed_setDeviceState i _, rfl, rfl, rfl⟩
  | fixed r w => exact ⟨.refl s, rfl, rfl, rfl⟩

/-- A handler asked for a write touches nothing but its device, or the controller's register of that address. -/
theorem Handler.onWrite_accessed (h : Handler) (a : Word) (v : Byte) (s : State) :
    s.Accessed (h.onWrite a v s).2 ∧ (h.onWrite a v s).2.mem = s.mem ∧
      (a ≠ ieAddress → (h.onWrite a v s).2.ieReg = s.ieReg) ∧
      (a ≠ ifAddress → (h.onWrite a v s).2.ifReg = s.ifReg) := by
  cases h with
  | interruptController =>
    simp only [Handler.onWrite]
    split
    · next hi =>
      refine ⟨⟨⟨⟨rfl, rfl, rfl⟩, rfl, rfl, id, fun _ => rfl, fun _ => rfl⟩, by simp [State.sameCpu], rfl⟩, rfl,
        fun _ => rfl, fun hn => absurd hi hn⟩
    · split
      · next he =>
        exact ⟨⟨⟨⟨rfl, rfl, rfl⟩, rfl, rfl, id, fun _ => rfl, fun _ => rfl⟩, by simp [State.sameCpu], rfl⟩, rfl,
          fun hn => absurd he hn, fun _ => rfl⟩
      · exact ⟨.refl s, rfl, fun _ => rfl, fun _ => rfl⟩
  | device i =>
    simp only [Handler.onWrite]
    cases s.devices[i]? with
    | none => exact ⟨.refl s, rfl, fun _ => rfl, fun _ => rfl⟩
    | some d => exact ⟨s.accessed_setDeviceState i _, rfl, fun _ => rfl, fun _ => rfl⟩
  | fixed r w => exact ⟨.refl s, rfl, fun _ => rfl, fun _ => rfl⟩

/-- A write that passes through leaves IE and IF alone. -/
theorem Handler.onWrite_passthrough {h : Handler} {a : Word} {v : Byte} {s t : State}
    (e : h.onWrite a v s = (.passthrough, t)) : t.ieReg = s.ieReg ∧ t.ifReg = s.ifReg := by
  cases h with
  | interruptController =>
    simp only [Handler.onWrite] at e
    split at e
    · cases e
    · split at e
      · cases e
      · cases e; exact ⟨rfl, rfl⟩
  | device i =>
    simp only [Handler.onWrite] at e
    cases hd : s.devices[i]? with
    | none => rw [hd] at e; cases e; exact ⟨rfl, rfl⟩
    | some d => rw [hd] at e; obtain rfl := (Prod.mk.inj e).2; exact ⟨rfl, rfl⟩
  | fixed r w => cases e; exact ⟨rfl, rfl⟩

/-! ## The bus -/

/-- The fault is a bus fault that leaves a state reached from `s` by handlers alone. -/
def BusFault (s : State) (a : Word) (kind : AccessKind) (v : Option Byte) (r : Fault) : Prop :=
  ∃ handle t, r = .illegalBusAccess a kind v handle (State.markFaulted t) ∧ s.Accessed t ∧ t.mem = s.mem ∧
    t.ieReg = s.ieReg ∧ t.ifReg = s.ifReg

theorem readVia_ends (regs : List Registration) (a : Word) (s : State) :
    Ends (readVia regs a s)
      (fun v => s.Accessed v.2 ∧ v.2.mem = s.mem ∧ v.2.ieReg = s.ieReg ∧ v.2.ifReg = s.ifReg)
      (BusFault s a .read none) never := by
  induction regs generalizing s with
  | nil => exact ⟨.refl s, rfl, rfl, rfl⟩
  | cons r rest ih =>
    simp only [readVia]
    split
    · have hr := Handler.onRead_accessed r.handler a s
      rcases h : r.handler.onRead a s with ⟨o, s1⟩
      rw [h] at hr
      cases o with
      | replace v => exact hr
      | passthrough =>
        refine (ih s1).mono ?_ ?_ (fun _ => id)
        · intro v hv
          exact ⟨hr.1.trans hv.1, hv.2.1.trans hr.2.1, hv.2.2.1.trans hr.2.2.1, hv.2.2.2.trans hr.2.2.2⟩
        · rintro _ ⟨n, t, rfl, h1, h2, h3, h4⟩
          exact ⟨n, t, rfl, hr.1.trans h1, h2.trans hr.2.1, h3.trans hr.2.2.1, h4.trans hr.2.2.2⟩
      | abort => exact ⟨r.handle, s, rfl, .refl s, rfl, rfl, rfl⟩
    · exact ih s

/-- Everything `Read8` can do (20_memory.md R45, 60_exceptions.md R207). -/
theorem read8_ends (a : Word) (s : State) :
    Ends (read8 a s)
      (fun v => s.Accessed v.2 ∧ v.2.mem = s.mem ∧ v.2.ieReg = s.ieReg ∧ v.2.ifReg = s.ifReg)
      (BusFault s a .read none) never := readVia_ends s.registry a s

/-- A write of the backing byte at an address that is not the controller's. -/
theorem State.accessed_poke (s : State) (a : Word) (v : Byte)
    (hc : s.controllerFirst = true → a ≠ ifAddress ∧ a ≠ ieAddress) : s.Accessed (s.poke a v) where
  kept :=
    { setup := ⟨rfl, rfl, rfl⟩
      kinds := rfl
      faulted := rfl
      memWf := Memory.write_wf a v
      ifByte := fun c => Memory.read_write_ne v fun e => (hc c).1 (BitVec.eq_of_toNat_eq e.symm)
      ieByte := fun c => Memory.read_write_ne v fun e => (hc c).2 (BitVec.eq_of_toNat_eq e.symm) }
  cpu := by simp [State.sameCpu]
  cycles := rfl

theorem State.peek_poke_ne (s : State) {a x : Word} (v : Byte) (h : x ≠ a) : (s.poke a v).peek x = s.peek x :=
  Memory.read_write_ne v fun e => h (BitVec.eq_of_toNat_eq e)

theorem State.peek_poke_self (s : State) (a : Word) (v : Byte) (h : Memory.wf s.mem = true) : (s.poke a v).peek a = v :=
  Memory.read_write_self a.toNat v h

theorem State.peek_of_mem {s t : State} (h : t.mem = s.mem) (a : Word) : t.peek a = s.peek a := by
  simp [State.peek, h]

/-- The result of `Write8` at `a` over some registrations. -/
def Wrote (s : State) (a : Word) (t : State) : Prop :=
  s.Accessed t ∧ (∀ x, x ≠ a → t.peek x = s.peek x) ∧ (a ≠ ieAddress → t.ieReg = s.ieReg) ∧
    (a ≠ ifAddress → t.ifReg = s.ifReg)

theorem writeVia_ends (regs : List Registration) (a : Word) (v : Byte) (s : State)
    (hc : s.controllerFirst = true → a ≠ ifAddress ∧ a ≠ ieAddress) :
    Ends (writeVia regs a v s) (Wrote s a) (BusFault s a .write (some v)) never := by
  induction regs generalizing s with
  | nil => exact ⟨s.accessed_poke a v hc, fun x hx => s.peek_poke_ne v hx, fun _ => rfl, fun _ => rfl⟩
  | cons r rest ih =>
    simp only [writeVia]
    split
    · have hr := Handler.onWrite_accessed r.handler a v s
      rcases h : r.handler.onWrite a v s with ⟨o, s1⟩
      rw [h] at hr
      have hc1 : s1.controllerFirst = true → a ≠ ifAddress ∧ a ≠ ieAddress := fun c =>
        hc ((State.controllerFirst_of_registry hr.1.kept.setup.1).symm.trans c)
      cases o with
      | block => exact ⟨hr.1, fun x _ => State.peek_of_mem hr.2.1 x, hr.2.2.1, hr.2.2.2⟩
      | replace v' =>
        exact ⟨hr.1.trans (s1.accessed_poke a v' hc1),
          fun x hx => (s1.peek_poke_ne v' hx).trans (State.peek_of_mem hr.2.1 x), hr.2.2.1, hr.2.2.2⟩
      | passthrough =>
        refine (ih s1 hc1).mono ?_ ?_ (fun _ => id)
        · rintro t ⟨h1, h2, h3, h4⟩
          exact ⟨hr.1.trans h1, fun x hx => (h2 x hx).trans (State.peek_of_mem hr.2.1 x),
            fun e => (h3 e).trans (hr.2.2.1 e), fun e => (h4 e).trans (hr.2.2.2 e)⟩
        · rintro _ ⟨n, t, rfl, h1, h2, h3, h4⟩
          have hp := Handler.onWrite_passthrough h
          exact ⟨n, t, rfl, hr.1.trans h1, h2.trans hr.2.1, h3.trans hp.1, h4.trans hp.2⟩
      | abort => exact ⟨r.handle, s, rfl, .refl s, rfl, rfl, rfl⟩
    · exact ih s hc

/-- The controller's registrations come first: the registry as a list. -/
theorem State.registry_of_controllerFirst {s : State} (h : s.controllerFirst = true) :
    ∃ rest, s.registry = controllerRegistrations ++ rest := by
  simp only [State.controllerFirst, decide_eq_true_eq] at h
  exact ⟨s.registry.drop 2, by rw [← h, List.take_append_drop]⟩

/-- Everything `Write8` can do (20_memory.md R46, 60_exceptions.md R207, R214, R215). -/
theorem write8_ends (a : Word) (v : Byte) (s : State) :
    Ends (write8 a v s) (Wrote s a) (BusFault s a .write (some v)) never := by
  by_cases hc : s.controllerFirst = true
  · obtain ⟨rest, hr⟩ := State.registry_of_controllerFirst hc
    by_cases hi : a = ifAddress
    · subst hi
      have e : write8 ifAddress v s = .next { s with ifReg := v.setWidth 5 } := by
        simp [write8, hr, controllerRegistrations, writeVia, Registration.covers, Handler.onWrite, ifAddress]
      rw [e]
      exact ⟨⟨⟨⟨rfl, rfl, rfl⟩, rfl, rfl, id, fun _ => rfl, fun _ => rfl⟩, by simp [State.sameCpu], rfl⟩,
        fun _ _ => rfl, fun _ => rfl, fun h => absurd rfl h⟩
    · by_cases he : a = ieAddress
      · subst he
        have e : write8 ieAddress v s = .next { s with ieReg := v.setWidth 5 } := by
          simp [write8, hr, controllerRegistrations, writeVia, Registration.covers, Handler.onWrite, ieAddress,
            ifAddress]
        rw [e]
        exact ⟨⟨⟨⟨rfl, rfl, rfl⟩, rfl, rfl, id, fun _ => rfl, fun _ => rfl⟩, by simp [State.sameCpu], rfl⟩,
          fun _ _ => rfl, fun h => absurd rfl h, fun _ => rfl⟩
      · exact writeVia_ends s.registry a v s fun _ => ⟨hi, he⟩
  · exact writeVia_ends s.registry a v s fun c => absurd c hc

/-! ## Plain memory -/

theorem State.plainAt_of_registry {s t : State} (h : t.registry = s.registry) (a : Word) :
    t.plainAt a = s.plainAt a := by simp [State.plainAt, h]

/-- A read of plain memory has no side effect and gives the backing byte (20_memory.md R56). -/
theorem read8_plain {s : State} {a : Word} (h : s.plainAt a = true) : read8 a s = .next (s.peek a, s) := by
  suffices go : ∀ regs : List Registration,
      (regs.all fun r => !r.covers a || decide (r.handler = .fixed .passthrough .passthrough)) = true →
      readVia regs a s = .next (s.peek a, s) from go s.registry h
  intro regs
  induction regs with
  | nil => intro _; rfl
  | cons r rest ih =>
    intro hr
    simp only [List.all_cons, Bool.and_eq_true, Bool.or_eq_true, Bool.not_eq_true', decide_eq_true_eq] at hr
    simp only [readVia]
    split
    · next hc =>
      have hh : r.handler = .fixed .passthrough .passthrough := hr.1.resolve_left (by simp [hc])
      rw [hh]
      exact ih hr.2
    · exact ih hr.2

/-- A write of plain memory stores the byte (20_memory.md R56). -/
theorem write8_plain {s : State} {a : Word} (v : Byte) (h : s.plainAt a = true) : write8 a v s = .next (s.poke a v) := by
  suffices go : ∀ regs : List Registration,
      (regs.all fun r => !r.covers a || decide (r.handler = .fixed .passthrough .passthrough)) = true →
      writeVia regs a v s = .next (s.poke a v) from go s.registry h
  intro regs
  induction regs with
  | nil => intro _; rfl
  | cons r rest ih =>
    intro hr
    simp only [List.all_cons, Bool.and_eq_true, Bool.or_eq_true, Bool.not_eq_true', decide_eq_true_eq] at hr
    simp only [writeVia]
    split
    · next hc =>
      have hh : r.handler = .fixed .passthrough .passthrough := hr.1.resolve_left (by simp [hc])
      rw [hh]
      exact ih hr.2
    · exact ih hr.2

/-! ## The stack -/

theorem State.Accessed.moveSp {s t : State} (h : s.Accessed t) (k : Word) : (s.moveSp k).Accessed (t.moveSp k) where
  kept := ⟨h.kept.setup, h.kept.kinds, h.kept.faulted, h.kept.memWf, h.kept.ifByte, h.kept.ieByte⟩
  cpu := by
    have := h.cpu
    simp only [State.sameCpu] at this ⊢
    simpa [State.moveSp] using this
  cycles := h.cycles

@[simp] theorem State.peek_moveSp (s : State) (k x : Word) : (s.moveSp k).peek x = s.peek x := rfl

@[simp] theorem State.moveSp_moveSp (s : State) (k l : Word) : (s.moveSp k).moveSp l = s.moveSp (k + l) := by
  simp [State.moveSp, BitVec.add_assoc]

theorem State.kept_moveSp (s : State) (k : Word) : s.Kept (s.moveSp k) :=
  ⟨⟨rfl, rfl, rfl⟩, rfl, rfl, id, fun _ => rfl, fun _ => rfl⟩

/-- A stack access that aborts: what is left is the state before it, with `sp` moved by one of `ks` (R208). -/
def StackFault (s : State) (ks : List Word) (r : Fault) : Prop :=
  ∃ a kind v handle t, r = .illegalBusAccess a kind v handle (State.markFaulted t) ∧ ∃ k ∈ ks, (s.moveSp k).Accessed t

/-- Everything `Push16` can do (20_memory.md R51, 60_exceptions.md R208). -/
theorem push16_ends (v : Word) (s : State) :
    Ends (push16 v s)
      (fun t => (s.moveSp (-2#16)).Accessed t ∧
        (∀ x, x ≠ s.sp - 1#16 → x ≠ s.sp - 2#16 → t.peek x = s.peek x) ∧
        (s.sp - 1#16 ≠ ieAddress → s.sp - 2#16 ≠ ieAddress → t.ieReg = s.ieReg) ∧
        (s.sp - 1#16 ≠ ifAddress → s.sp - 2#16 ≠ ifAddress → t.ifReg = s.ifReg))
      (StackFault s [-1#16, -2#16]) never := by
  have h2 : s.sp - 1#16 - 1#16 = s.sp - 2#16 := by simp only [BitVec.sub_sub]; rfl
  refine (write8_ends (s.sp - 1#16) (hiByte v) (s.moveSp (-1#16))).andThen ?_ ?_ (fun _ => id)
  · rintro s1 ⟨a1, p1, e1, f1⟩
    have hsp : s1.sp = s.sp - 1#16 := by
      rw [a1.cpu.2.2.2.2.2.2.2.2.1]
      simp [State.moveSp, BitVec.sub_eq_add_neg]
    have m1 : (s.moveSp (-2#16)).Accessed (s1.moveSp (-1#16)) := by
      have := a1.moveSp (-1#16)
      rwa [State.moveSp_moveSp] at this
    unfold pushByte
    rw [hsp, h2]
    refine (write8_ends (s.sp - 2#16) (loByte v) (s1.moveSp (-1#16))).mono ?_ ?_ (fun _ => id)
    · rintro t ⟨a2, p2, e2, f2⟩
      refine ⟨m1.trans a2, fun x n1 n2 => ?_, fun n1 n2 => ?_, fun n1 n2 => ?_⟩
      · rw [p2 x n2, State.peek_moveSp, p1 x n1, State.peek_moveSp]
      · rw [e2 n2, State.moveSp_ieReg, e1 n1, State.moveSp_ieReg]
      · rw [f2 n2, State.moveSp_ifReg, f1 n1, State.moveSp_ifReg]
    · rintro _ ⟨n, t, rfl, h, -⟩
      exact ⟨_, _, _, n, t, rfl, -2#16, by simp, m1.trans h⟩
  · rintro _ ⟨n, t, rfl, h, -⟩
    exact ⟨_, _, _, n, t, rfl, -1#16, by simp, h⟩

/-- Everything `Pop16` can do (20_memory.md R52, 60_exceptions.md R208). -/
theorem pop16_ends (s : State) :
    Ends (pop16 s)
      (fun v => (s.moveSp 2#16).Accessed v.2 ∧ v.2.mem = s.mem ∧ v.2.ieReg = s.ieReg ∧ v.2.ifReg = s.ifReg)
      (StackFault s [0#16, 1#16]) never := by
  have half : ∀ u : State, Ends (popByte u)
      (fun v => (u.moveSp 1#16).Accessed v.2 ∧ v.2.mem = u.mem ∧ v.2.ieReg = u.ieReg ∧ v.2.ifReg = u.ifReg)
      (fun r => ∃ a kind w handle t, r = .illegalBusAccess a kind w handle (State.markFaulted t) ∧ u.Accessed t)
      never := by
    intro u
    refine (read8_ends u.sp u).andThen ?_ ?_ (fun _ => id)
    · rintro v ⟨h1, h2, h3, h4⟩
      exact ⟨h1.moveSp 1#16, h2, h3, h4⟩
    · rintro _ ⟨n, t, rfl, h, -⟩
      exact ⟨_, _, _, n, t, rfl, h⟩
  refine (half s).andThen ?_ ?_ (fun _ => id)
  · rintro lo ⟨a1, m1, e1, f1⟩
    refine (half lo.2).andThen ?_ ?_ (fun _ => id)
    · rintro hi ⟨a2, m2, e2, f2⟩
      refine ⟨?_, m2.trans m1, e2.trans e1, f2.trans f1⟩
      have := a1.moveSp 1#16
      rw [State.moveSp_moveSp] at this
      exact this.trans a2
    · rintro _ ⟨a, k, w, n, t, rfl, h⟩
      exact ⟨a, k, w, n, t, rfl, 1#16, by simp, a1.trans h⟩
  · rintro _ ⟨a, k, w, n, t, rfl, h⟩
    refine ⟨a, k, w, n, t, rfl, 0#16, by simp, ?_⟩
    have : s.moveSp 0#16 = s := by simp [State.moveSp]
    rwa [this]

/-- A push onto plain memory (20_memory.md R51). -/
theorem push16_plain {s : State} (v : Word) (h1 : s.plainAt (s.sp - 1#16) = true) (h2 : s.plainAt (s.sp - 2#16) = true) :
    push16 v s =
      .next { (s.poke (s.sp - 1#16) (hiByte v)).poke (s.sp - 2#16) (loByte v) with sp := s.sp - 2#16 } := by
  have e2 : s.sp - 1#16 - 1#16 = s.sp - 2#16 := by simp only [BitVec.sub_sub]; rfl
  have e3 : s.sp - 1#16 + -1#16 = s.sp - 2#16 := by bv_omega
  have e1 : s.sp + -1#16 = s.sp - 1#16 := by simp [BitVec.sub_eq_add_neg]
  have w1 := write8_plain (s := s.moveSp (-1#16)) (hiByte v)
    ((State.plainAt_of_registry (State.moveSp_registry s _) _).trans h1)
  have w2 := write8_plain (s := ((s.moveSp (-1#16)).poke (s.sp - 1#16) (hiByte v)).moveSp (-1#16)) (loByte v)
    ((State.plainAt_of_registry (s := s) (by simp) _).trans h2)
  have p1 : ((s.moveSp (-1#16)).poke (s.sp - 1#16) (hiByte v)).sp = s.sp - 1#16 := by
    rw [State.poke_sp, State.moveSp_sp, e1]
  unfold push16 pushByte
  rw [w1, andThen_next, p1, e2, w2]
  simp only [State.moveSp, State.poke, e1, e3]

/-- A pop from plain memory (20_memory.md R52). -/
theorem pop16_plain {s : State} (h1 : s.plainAt s.sp = true) (h2 : s.plainAt (s.sp + 1#16) = true) :
    pop16 s = .next (joinBytes (s.peek (s.sp + 1#16)) (s.peek s.sp), { s with sp := s.sp + 2#16 }) := by
  have r2 := read8_plain (s := s.moveSp 1#16) (a := s.sp + 1#16) h2
  unfold pop16 popByte
  rw [read8_plain h1]
  simp only [andThen_next, State.moveSp_sp]
  rw [r2, andThen_next, andThen_next, State.peek_moveSp, State.moveSp_moveSp]
  rfl

/-! ## The poll -/

theorem State.promoteEI_imeScheduled (s : State) : s.promoteEI.imeScheduled = false := by
  unfold State.promoteEI
  split
  · rfl
  · next h => simpa using h

theorem State.promoteEI_of_not {s : State} (h : s.imeScheduled = false) : s.promoteEI = s := by
  simp [State.promoteEI, h]

theorem State.promoteEI_kept (s : State) : s.Kept s.promoteEI := by
  unfold State.promoteEI
  split
  · exact ⟨⟨rfl, rfl, rfl⟩, rfl, rfl, id, fun _ => rfl, fun _ => rfl⟩
  · exact .refl s

theorem State.wake_kept (s : State) : s.Kept s.wake := by
  unfold State.wake
  split
  · exact ⟨⟨rfl, rfl, rfl⟩, rfl, rfl, id, fun _ => rfl, fun _ => rfl⟩
  · exact .refl s

/-- The wake leaves everything but the mode, and never halts. -/
theorem State.wake_cases (s : State) :
    s.wake = s ∨ (s.mode = .halted ∧ s.wakeCond = true ∧ s.wake = { s with mode := .running }) := by
  unfold State.wake
  split
  · next h => exact .inr ⟨h.1, h.2, rfl⟩
  · exact .inl rfl

/-- Everything the poll can do (60_exceptions.md R220, R221): no service, or the service of the line of highest
priority. -/
theorem pollInterrupts_cases (s : State) :
    (pollInterrupts s = .next s.wake ∧ (s.ime = false ∨ s.nextRequest = none)) ∨
    (∃ l, s.ime = true ∧ s.nextRequest = some l ∧ pollInterrupts s = takeInterrupt l (s.wake.clearRequest l)) := by
  have hi : s.wake.ime = s.ime := by rcases s.wake_cases with h | ⟨-, -, h⟩ <;> rw [h]
  have hn : s.wake.nextRequest = s.nextRequest := by
    rcases s.wake_cases with h | ⟨-, -, h⟩
    · rw [h]
    · rw [h]; rfl
  unfold pollInterrupts
  simp only [hi, hn]
  cases hs : s.ime with
  | false => exact .inl ⟨by simp, .inl rfl⟩
  | true =>
    cases hl : s.nextRequest with
    | none => exact .inl ⟨by simp, .inr rfl⟩
    | some l =>
      refine .inr ⟨l, rfl, rfl, ?_⟩
      simp [serviceInterrupt, State.consumeRequest, hn, hl]

/-- Everything the service of a line can do (60_exceptions.md R221, R208). -/
theorem takeInterrupt_ends (l : Line) (s : State) :
    Ends (takeInterrupt l s)
      (fun t => ∃ u, ({ s.disableInterrupts with mode := .running }.moveSp (-2#16)).Accessed u ∧
        (∀ x, x ≠ s.sp - 1#16 → x ≠ s.sp - 2#16 → u.peek x = s.peek x) ∧
        t = { u with pc := lineVector l, cycles := u.cycles + u.config.intServiceCycles })
      (StackFault { s.disableInterrupts with mode := .running } [-1#16, -2#16]) never := by
  refine (push16_ends s.pc { s.disableInterrupts with mode := .running }).andThen ?_ (fun _ => id) (fun _ => id)
  rintro u ⟨h1, h2, -⟩
  exact ⟨u, h1, h2, rfl⟩

/-! ## The peripheral phase -/

/-- Devices stepped in two runs of places are stepped in the one after the other (60_exceptions.md R235). -/
theorem stepDevices_append (l m : List Nat) (n : Nat) :
    stepDevices (l ++ m) n = fun s => andThen (stepDevices l n s) (stepDevices m n) := by
  induction l with
  | nil => rfl
  | cons i l ih => funext s; simp only [List.cons_append, stepDevices, ih, andThen_assoc]

/-! ## The moves of the host -/

@[simp] theorem unlessFaulted_of_faulted {s : State} (h : s.faulted = true)
    (move : Except HostError (HostAnswer × State)) : unlessFaulted s move = .error .afterFault := by
  simp [unlessFaulted, h]

@[simp] theorem unlessFaulted_of_not {s : State} (h : s.faulted = false)
    (move : Except HostError (HostAnswer × State)) : unlessFaulted s move = move := by
  simp [unlessFaulted, h]

end Sys2Proof.Machine
end

