-- ==== Sys2Proof/Tests/Slice0.lean ====
section
/-! SUPPORT. Tests of the model, each on one step or one word, and the witnesses of the statements' hypotheses. Expected
results are from outside the model: the encodings of spec/opcode_table.json, the vectors of 95_test_vectors.md (each
named with its row and rule) and the examples of the rules. -/

open Sys2Proof Sys2Proof.Machine

/-! ## Well-formedness -/

theorem test_wellFormed_refuses_the_bare_marker : (Instr.prefixCB 0x37#8).wellFormed = false := by decide

theorem test_wellFormed_accepts_the_prefixed_instruction : Instr.swap_a.wellFormed = true := by decide

/-! ## Decoding: every word of spec/opcode_table.json, written out from its encoding -/

theorem test_decode_unprefixed_00 : List.map decode [
   [0b00000000#8], [0b00000001#8, 0x34#8, 0x12#8], [0b00000010#8], [0b00000011#8], [0b00000100#8], [0b00000101#8],
   [0b00000110#8, 0x9C#8], [0b00000111#8], [0b00001000#8, 0x34#8, 0x12#8], [0b00001001#8], [0b00001010#8],
   [0b00001011#8], [0b00001100#8], [0b00001101#8], [0b00001110#8, 0x9C#8], [0b00001111#8]] =
  List.map Except.ok [
   (.nop, []), (.ld_bc_n16 0x1234#16, []), (.ld_mBC_a, []), (.inc_bc, []), (.inc_b, []), (.dec_b, []),
   (.ld_b_n8 0x9C#8, []), (.rlca, []), (.ld_mA16_sp 0x1234#16, []), (.add_hl_bc, []), (.ld_a_mBC, []),
   (.dec_bc, []), (.inc_c, []), (.dec_c, []), (.ld_c_n8 0x9C#8, []), (.rrca, [])] := by rfl

theorem test_decode_unprefixed_10 : List.map decode [
   [0b00010000#8, 0x9C#8], [0b00010001#8, 0x34#8, 0x12#8], [0b00010010#8], [0b00010011#8], [0b00010100#8],
   [0b00010101#8], [0b00010110#8, 0x9C#8], [0b00010111#8], [0b00011000#8, 0x9C#8], [0b00011001#8],
   [0b00011010#8], [0b00011011#8], [0b00011100#8], [0b00011101#8], [0b00011110#8, 0x9C#8], [0b00011111#8]] =
  List.map Except.ok [
   (.stop_n8 0x9C#8, []), (.ld_de_n16 0x1234#16, []), (.ld_mDE_a, []), (.inc_de, []), (.inc_d, []), (.dec_d, []),
   (.ld_d_n8 0x9C#8, []), (.rla, []), (.jr_e8 0x9C#8, []), (.add_hl_de, []), (.ld_a_mDE, []), (.dec_de, []),
   (.inc_e, []), (.dec_e, []), (.ld_e_n8 0x9C#8, []), (.rra, [])] := by rfl

theorem test_decode_unprefixed_20 : List.map decode [
   [0b00100000#8, 0x9C#8], [0b00100001#8, 0x34#8, 0x12#8], [0b00100010#8], [0b00100011#8], [0b00100100#8],
   [0b00100101#8], [0b00100110#8, 0x9C#8], [0b00100111#8], [0b00101000#8, 0x9C#8], [0b00101001#8],
   [0b00101010#8], [0b00101011#8], [0b00101100#8], [0b00101101#8], [0b00101110#8, 0x9C#8], [0b00101111#8]] =
  List.map Except.ok [
   (.jr_nz_e8 0x9C#8, []), (.ld_hl_n16 0x1234#16, []), (.ld_mHLinc_a, []), (.inc_hl, []), (.inc_h, []),
   (.dec_h, []), (.ld_h_n8 0x9C#8, []), (.daa, []), (.jr_z_e8 0x9C#8, []), (.add_hl_hl, []), (.ld_a_mHLinc, []),
   (.dec_hl, []), (.inc_l, []), (.dec_l, []), (.ld_l_n8 0x9C#8, []), (.cpl, [])] := by rfl

theorem test_decode_unprefixed_30 : List.map decode [
   [0b00110000#8, 0x9C#8], [0b00110001#8, 0x34#8, 0x12#8], [0b00110010#8], [0b00110011#8], [0b00110100#8],
   [0b00110101#8], [0b00110110#8, 0x9C#8], [0b00110111#8], [0b00111000#8, 0x9C#8], [0b00111001#8],
   [0b00111010#8], [0b00111011#8], [0b00111100#8], [0b00111101#8], [0b00111110#8, 0x9C#8], [0b00111111#8]] =
  List.map Except.ok [
   (.jr_nc_e8 0x9C#8, []), (.ld_sp_n16 0x1234#16, []), (.ld_mHLdec_a, []), (.inc_sp, []), (.inc_mHL, []),
   (.dec_mHL, []), (.ld_mHL_n8 0x9C#8, []), (.scf, []), (.jr_c_e8 0x9C#8, []), (.add_hl_sp, []),
   (.ld_a_mHLdec, []), (.dec_sp, []), (.inc_a, []), (.dec_a, []), (.ld_a_n8 0x9C#8, []), (.ccf, [])] := by rfl

theorem test_decode_unprefixed_40 : List.map decode [
   [0b01000000#8], [0b01000001#8], [0b01000010#8], [0b01000011#8], [0b01000100#8], [0b01000101#8], [0b01000110#8],
   [0b01000111#8], [0b01001000#8], [0b01001001#8], [0b01001010#8], [0b01001011#8], [0b01001100#8],
   [0b01001101#8], [0b01001110#8], [0b01001111#8]] =
  List.map Except.ok [
   (.ld_b_b, []), (.ld_b_c, []), (.ld_b_d, []), (.ld_b_e, []), (.ld_b_h, []), (.ld_b_l, []), (.ld_b_mHL, []),
   (.ld_b_a, []), (.ld_c_b, []), (.ld_c_c, []), (.ld_c_d, []), (.ld_c_e, []), (.ld_c_h, []), (.ld_c_l, []),
   (.ld_c_mHL, []), (.ld_c_a, [])] := by rfl

theorem test_decode_unprefixed_50 : List.map decode [
   [0b01010000#8], [0b01010001#8], [0b01010010#8], [0b01010011#8], [0b01010100#8], [0b01010101#8], [0b01010110#8],
   [0b01010111#8], [0b01011000#8], [0b01011001#8], [0b01011010#8], [0b01011011#8], [0b01011100#8],
   [0b01011101#8], [0b01011110#8], [0b01011111#8]] =
  List.map Except.ok [
   (.ld_d_b, []), (.ld_d_c, []), (.ld_d_d, []), (.ld_d_e, []), (.ld_d_h, []), (.ld_d_l, []), (.ld_d_mHL, []),
   (.ld_d_a, []), (.ld_e_b, []), (.ld_e_c, []), (.ld_e_d, []), (.ld_e_e, []), (.ld_e_h, []), (.ld_e_l, []),
   (.ld_e_mHL, []), (.ld_e_a, [])] := by rfl

theorem test_decode_unprefixed_60 : List.map decode [
   [0b01100000#8], [0b01100001#8], [0b01100010#8], [0b01100011#8], [0b01100100#8], [0b01100101#8], [0b01100110#8],
   [0b01100111#8], [0b01101000#8], [0b01101001#8], [0b01101010#8], [0b01101011#8], [0b01101100#8],
   [0b01101101#8], [0b01101110#8], [0b01101111#8]] =
  List.map Except.ok [
   (.ld_h_b, []), (.ld_h_c, []), (.ld_h_d, []), (.ld_h_e, []), (.ld_h_h, []), (.ld_h_l, []), (.ld_h_mHL, []),
   (.ld_h_a, []), (.ld_l_b, []), (.ld_l_c, []), (.ld_l_d, []), (.ld_l_e, []), (.ld_l_h, []), (.ld_l_l, []),
   (.ld_l_mHL, []), (.ld_l_a, [])] := by rfl

theorem test_decode_unprefixed_70 : List.map decode [
   [0b01110000#8], [0b01110001#8], [0b01110010#8], [0b01110011#8], [0b01110100#8], [0b01110101#8], [0b01110110#8],
   [0b01110111#8], [0b01111000#8], [0b01111001#8], [0b01111010#8], [0b01111011#8], [0b01111100#8],
   [0b01111101#8], [0b01111110#8], [0b01111111#8]] =
  List.map Except.ok [
   (.ld_mHL_b, []), (.ld_mHL_c, []), (.ld_mHL_d, []), (.ld_mHL_e, []), (.ld_mHL_h, []), (.ld_mHL_l, []),
   (.halt, []), (.ld_mHL_a, []), (.ld_a_b, []), (.ld_a_c, []), (.ld_a_d, []), (.ld_a_e, []), (.ld_a_h, []),
   (.ld_a_l, []), (.ld_a_mHL, []), (.ld_a_a, [])] := by rfl

theorem test_decode_unprefixed_80 : List.map decode [
   [0b10000000#8], [0b10000001#8], [0b10000010#8], [0b10000011#8], [0b10000100#8], [0b10000101#8], [0b10000110#8],
   [0b10000111#8], [0b10001000#8], [0b10001001#8], [0b10001010#8], [0b10001011#8], [0b10001100#8],
   [0b10001101#8], [0b10001110#8], [0b10001111#8]] =
  List.map Except.ok [
   (.add_a_b, []), (.add_a_c, []), (.add_a_d, []), (.add_a_e, []), (.add_a_h, []), (.add_a_l, []), (.add_a_mHL, []),
   (.add_a_a, []), (.adc_a_b, []), (.adc_a_c, []), (.adc_a_d, []), (.adc_a_e, []), (.adc_a_h, []),
   (.adc_a_l, []), (.adc_a_mHL, []), (.adc_a_a, [])] := by rfl

theorem test_decode_unprefixed_90 : List.map decode [
   [0b10010000#8], [0b10010001#8], [0b10010010#8], [0b10010011#8], [0b10010100#8], [0b10010101#8], [0b10010110#8],
   [0b10010111#8], [0b10011000#8], [0b10011001#8], [0b10011010#8], [0b10011011#8], [0b10011100#8],
   [0b10011101#8], [0b10011110#8], [0b10011111#8]] =
  List.map Except.ok [
   (.sub_a_b, []), (.sub_a_c, []), (.sub_a_d, []), (.sub_a_e, []), (.sub_a_h, []), (.sub_a_l, []), (.sub_a_mHL, []),
   (.sub_a_a, []), (.sbc_a_b, []), (.sbc_a_c, []), (.sbc_a_d, []), (.sbc_a_e, []), (.sbc_a_h, []),
   (.sbc_a_l, []), (.sbc_a_mHL, []), (.sbc_a_a, [])] := by rfl

theorem test_decode_unprefixed_A0 : List.map decode [
   [0b10100000#8], [0b10100001#8], [0b10100010#8], [0b10100011#8], [0b10100100#8], [0b10100101#8], [0b10100110#8],
   [0b10100111#8], [0b10101000#8], [0b10101001#8], [0b10101010#8], [0b10101011#8], [0b10101100#8],
   [0b10101101#8], [0b10101110#8], [0b10101111#8]] =
  List.map Except.ok [
   (.and_a_b, []), (.and_a_c, []), (.and_a_d, []), (.and_a_e, []), (.and_a_h, []), (.and_a_l, []), (.and_a_mHL, []),
   (.and_a_a, []), (.xor_a_b, []), (.xor_a_c, []), (.xor_a_d, []), (.xor_a_e, []), (.xor_a_h, []),
   (.xor_a_l, []), (.xor_a_mHL, []), (.xor_a_a, [])] := by rfl

theorem test_decode_unprefixed_B0 : List.map decode [
   [0b10110000#8], [0b10110001#8], [0b10110010#8], [0b10110011#8], [0b10110100#8], [0b10110101#8], [0b10110110#8],
   [0b10110111#8], [0b10111000#8], [0b10111001#8], [0b10111010#8], [0b10111011#8], [0b10111100#8],
   [0b10111101#8], [0b10111110#8], [0b10111111#8]] =
  List.map Except.ok [
   (.or_a_b, []), (.or_a_c, []), (.or_a_d, []), (.or_a_e, []), (.or_a_h, []), (.or_a_l, []), (.or_a_mHL, []),
   (.or_a_a, []), (.cp_a_b, []), (.cp_a_c, []), (.cp_a_d, []), (.cp_a_e, []), (.cp_a_h, []), (.cp_a_l, []),
   (.cp_a_mHL, []), (.cp_a_a, [])] := by rfl

theorem test_decode_unprefixed_C0 : List.map decode [
   [0b11000000#8], [0b11000001#8], [0b11000010#8, 0x34#8, 0x12#8], [0b11000011#8, 0x34#8, 0x12#8],
   [0b11000100#8, 0x34#8, 0x12#8], [0b11000101#8], [0b11000110#8, 0x9C#8], [0b11000111#8], [0b11001000#8],
   [0b11001001#8], [0b11001010#8, 0x34#8, 0x12#8], [0b11001100#8, 0x34#8, 0x12#8],
   [0b11001101#8, 0x34#8, 0x12#8], [0b11001110#8, 0x9C#8], [0b11001111#8]] =
  List.map Except.ok [
   (.ret_nz, []), (.pop_bc, []), (.jp_nz_a16 0x1234#16, []), (.jp_a16 0x1234#16, []), (.call_nz_a16 0x1234#16, []),
   (.push_bc, []), (.add_a_n8 0x9C#8, []), (.rst_00, []), (.ret_z, []), (.ret, []), (.jp_z_a16 0x1234#16, []),
   (.call_z_a16 0x1234#16, []), (.call_a16 0x1234#16, []), (.adc_a_n8 0x9C#8, []), (.rst_08, [])] := by rfl

theorem test_decode_unprefixed_D0 : List.map decode [
   [0b11010000#8], [0b11010001#8], [0b11010010#8, 0x34#8, 0x12#8], [0b11010100#8, 0x34#8, 0x12#8], [0b11010101#8],
   [0b11010110#8, 0x9C#8], [0b11010111#8], [0b11011000#8], [0b11011001#8], [0b11011010#8, 0x34#8, 0x12#8],
   [0b11011100#8, 0x34#8, 0x12#8], [0b11011110#8, 0x9C#8], [0b11011111#8]] =
  List.map Except.ok [
   (.ret_nc, []), (.pop_de, []), (.jp_nc_a16 0x1234#16, []), (.call_nc_a16 0x1234#16, []), (.push_de, []),
   (.sub_a_n8 0x9C#8, []), (.rst_10, []), (.ret_c, []), (.reti, []), (.jp_c_a16 0x1234#16, []),
   (.call_c_a16 0x1234#16, []), (.sbc_a_n8 0x9C#8, []), (.rst_18, [])] := by rfl

theorem test_decode_unprefixed_E0 : List.map decode [
   [0b11100000#8, 0x9C#8], [0b11100001#8], [0b11100010#8], [0b11100101#8], [0b11100110#8, 0x9C#8], [0b11100111#8],
   [0b11101000#8, 0x9C#8], [0b11101001#8], [0b11101010#8, 0x34#8, 0x12#8], [0b11101110#8, 0x9C#8],
   [0b11101111#8]] =
  List.map Except.ok [
   (.ldh_mA8_a 0x9C#8, []), (.pop_hl, []), (.ld_mC_a, []), (.push_hl, []), (.and_a_n8 0x9C#8, []), (.rst_20, []),
   (.add_sp_e8 0x9C#8, []), (.jp_hl, []), (.ld_mA16_a 0x1234#16, []), (.xor_a_n8 0x9C#8, []), (.rst_28, [])] := by rfl

theorem test_decode_unprefixed_F0 : List.map decode [
   [0b11110000#8, 0x9C#8], [0b11110001#8], [0b11110010#8], [0b11110011#8], [0b11110101#8], [0b11110110#8, 0x9C#8],
   [0b11110111#8], [0b11111000#8, 0x9C#8], [0b11111001#8], [0b11111010#8, 0x34#8, 0x12#8], [0b11111011#8],
   [0b11111110#8, 0x9C#8], [0b11111111#8]] =
  List.map Except.ok [
   (.ldh_a_mA8 0x9C#8, []), (.pop_af, []), (.ld_a_mC, []), (.di, []), (.push_af, []), (.or_a_n8 0x9C#8, []),
   (.rst_30, []), (.ld_hl_spE8 0x9C#8, []), (.ld_sp_hl, []), (.ld_a_mA16 0x1234#16, []), (.ei, []),
   (.cp_a_n8 0x9C#8, []), (.rst_38, [])] := by rfl

theorem test_decode_prefixed_00 : List.map decode [
   [0b11001011#8, 0b00000000#8], [0b11001011#8, 0b00000001#8], [0b11001011#8, 0b00000010#8],
   [0b11001011#8, 0b00000011#8], [0b11001011#8, 0b00000100#8], [0b11001011#8, 0b00000101#8],
   [0b11001011#8, 0b00000110#8], [0b11001011#8, 0b00000111#8], [0b11001011#8, 0b00001000#8],
   [0b11001011#8, 0b00001001#8], [0b11001011#8, 0b00001010#8], [0b11001011#8, 0b00001011#8],
   [0b11001011#8, 0b00001100#8], [0b11001011#8, 0b00001101#8], [0b11001011#8, 0b00001110#8],
   [0b11001011#8, 0b00001111#8]] =
  List.map Except.ok [
   (.rlc_b, []), (.rlc_c, []), (.rlc_d, []), (.rlc_e, []), (.rlc_h, []), (.rlc_l, []), (.rlc_mHL, []), (.rlc_a, []),
   (.rrc_b, []), (.rrc_c, []), (.rrc_d, []), (.rrc_e, []), (.rrc_h, []), (.rrc_l, []), (.rrc_mHL, []),
   (.rrc_a, [])] := by rfl

theorem test_decode_prefixed_10 : List.map decode [
   [0b11001011#8, 0b00010000#8], [0b11001011#8, 0b00010001#8], [0b11001011#8, 0b00010010#8],
   [0b11001011#8, 0b00010011#8], [0b11001011#8, 0b00010100#8], [0b11001011#8, 0b00010101#8],
   [0b11001011#8, 0b00010110#8], [0b11001011#8, 0b00010111#8], [0b11001011#8, 0b00011000#8],
   [0b11001011#8, 0b00011001#8], [0b11001011#8, 0b00011010#8], [0b11001011#8, 0b00011011#8],
   [0b11001011#8, 0b00011100#8], [0b11001011#8, 0b00011101#8], [0b11001011#8, 0b00011110#8],
   [0b11001011#8, 0b00011111#8]] =
  List.map Except.ok [
   (.rl_b, []), (.rl_c, []), (.rl_d, []), (.rl_e, []), (.rl_h, []), (.rl_l, []), (.rl_mHL, []), (.rl_a, []),
   (.rr_b, []), (.rr_c, []), (.rr_d, []), (.rr_e, []), (.rr_h, []), (.rr_l, []), (.rr_mHL, []), (.rr_a, [])] := by rfl

theorem test_decode_prefixed_20 : List.map decode [
   [0b11001011#8, 0b00100000#8], [0b11001011#8, 0b00100001#8], [0b11001011#8, 0b00100010#8],
   [0b11001011#8, 0b00100011#8], [0b11001011#8, 0b00100100#8], [0b11001011#8, 0b00100101#8],
   [0b11001011#8, 0b00100110#8], [0b11001011#8, 0b00100111#8], [0b11001011#8, 0b00101000#8],
   [0b11001011#8, 0b00101001#8], [0b11001011#8, 0b00101010#8], [0b11001011#8, 0b00101011#8],
   [0b11001011#8, 0b00101100#8], [0b11001011#8, 0b00101101#8], [0b11001011#8, 0b00101110#8],
   [0b11001011#8, 0b00101111#8]] =
  List.map Except.ok [
   (.sla_b, []), (.sla_c, []), (.sla_d, []), (.sla_e, []), (.sla_h, []), (.sla_l, []), (.sla_mHL, []), (.sla_a, []),
   (.sra_b, []), (.sra_c, []), (.sra_d, []), (.sra_e, []), (.sra_h, []), (.sra_l, []), (.sra_mHL, []),
   (.sra_a, [])] := by rfl

theorem test_decode_prefixed_30 : List.map decode [
   [0b11001011#8, 0b00110000#8], [0b11001011#8, 0b00110001#8], [0b11001011#8, 0b00110010#8],
   [0b11001011#8, 0b00110011#8], [0b11001011#8, 0b00110100#8], [0b11001011#8, 0b00110101#8],
   [0b11001011#8, 0b00110110#8], [0b11001011#8, 0b00110111#8], [0b11001011#8, 0b00111000#8],
   [0b11001011#8, 0b00111001#8], [0b11001011#8, 0b00111010#8], [0b11001011#8, 0b00111011#8],
   [0b11001011#8, 0b00111100#8], [0b11001011#8, 0b00111101#8], [0b11001011#8, 0b00111110#8],
   [0b11001011#8, 0b00111111#8]] =
  List.map Except.ok [
   (.swap_b, []), (.swap_c, []), (.swap_d, []), (.swap_e, []), (.swap_h, []), (.swap_l, []), (.swap_mHL, []),
   (.swap_a, []), (.srl_b, []), (.srl_c, []), (.srl_d, []), (.srl_e, []), (.srl_h, []), (.srl_l, []),
   (.srl_mHL, []), (.srl_a, [])] := by rfl

theorem test_decode_prefixed_40 : List.map decode [
   [0b11001011#8, 0b01000000#8], [0b11001011#8, 0b01000001#8], [0b11001011#8, 0b01000010#8],
   [0b11001011#8, 0b01000011#8], [0b11001011#8, 0b01000100#8], [0b11001011#8, 0b01000101#8],
   [0b11001011#8, 0b01000110#8], [0b11001011#8, 0b01000111#8], [0b11001011#8, 0b01001000#8],
   [0b11001011#8, 0b01001001#8], [0b11001011#8, 0b01001010#8], [0b11001011#8, 0b01001011#8],
   [0b11001011#8, 0b01001100#8], [0b11001011#8, 0b01001101#8], [0b11001011#8, 0b01001110#8],
   [0b11001011#8, 0b01001111#8]] =
  List.map Except.ok [
   (.bit_0_b, []), (.bit_0_c, []), (.bit_0_d, []), (.bit_0_e, []), (.bit_0_h, []), (.bit_0_l, []), (.bit_0_mHL, []),
   (.bit_0_a, []), (.bit_1_b, []), (.bit_1_c, []), (.bit_1_d, []), (.bit_1_e, []), (.bit_1_h, []),
   (.bit_1_l, []), (.bit_1_mHL, []), (.bit_1_a, [])] := by rfl

theorem test_decode_prefixed_50 : List.map decode [
   [0b11001011#8, 0b01010000#8], [0b11001011#8, 0b01010001#8], [0b11001011#8, 0b01010010#8],
   [0b11001011#8, 0b01010011#8], [0b11001011#8, 0b01010100#8], [0b11001011#8, 0b01010101#8],
   [0b11001011#8, 0b01010110#8], [0b11001011#8, 0b01010111#8], [0b11001011#8, 0b01011000#8],
   [0b11001011#8, 0b01011001#8], [0b11001011#8, 0b01011010#8], [0b11001011#8, 0b01011011#8],
   [0b11001011#8, 0b01011100#8], [0b11001011#8, 0b01011101#8], [0b11001011#8, 0b01011110#8],
   [0b11001011#8, 0b01011111#8]] =
  List.map Except.ok [
   (.bit_2_b, []), (.bit_2_c, []), (.bit_2_d, []), (.bit_2_e, []), (.bit_2_h, []), (.bit_2_l, []), (.bit_2_mHL, []),
   (.bit_2_a, []), (.bit_3_b, []), (.bit_3_c, []), (.bit_3_d, []), (.bit_3_e, []), (.bit_3_h, []),
   (.bit_3_l, []), (.bit_3_mHL, []), (.bit_3_a, [])] := by rfl

theorem test_decode_prefixed_60 : List.map decode [
   [0b11001011#8, 0b01100000#8], [0b11001011#8, 0b01100001#8], [0b11001011#8, 0b01100010#8],
   [0b11001011#8, 0b01100011#8], [0b11001011#8, 0b01100100#8], [0b11001011#8, 0b01100101#8],
   [0b11001011#8, 0b01100110#8], [0b11001011#8, 0b01100111#8], [0b11001011#8, 0b01101000#8],
   [0b11001011#8, 0b01101001#8], [0b11001011#8, 0b01101010#8], [0b11001011#8, 0b01101011#8],
   [0b11001011#8, 0b01101100#8], [0b11001011#8, 0b01101101#8], [0b11001011#8, 0b01101110#8],
   [0b11001011#8, 0b01101111#8]] =
  List.map Except.ok [
   (.bit_4_b, []), (.bit_4_c, []), (.bit_4_d, []), (.bit_4_e, []), (.bit_4_h, []), (.bit_4_l, []), (.bit_4_mHL, []),
   (.bit_4_a, []), (.bit_5_b, []), (.bit_5_c, []), (.bit_5_d, []), (.bit_5_e, []), (.bit_5_h, []),
   (.bit_5_l, []), (.bit_5_mHL, []), (.bit_5_a, [])] := by rfl

theorem test_decode_prefixed_70 : List.map decode [
   [0b11001011#8, 0b01110000#8], [0b11001011#8, 0b01110001#8], [0b11001011#8, 0b01110010#8],
   [0b11001011#8, 0b01110011#8], [0b11001011#8, 0b01110100#8], [0b11001011#8, 0b01110101#8],
   [0b11001011#8, 0b01110110#8], [0b11001011#8, 0b01110111#8], [0b11001011#8, 0b01111000#8],
   [0b11001011#8, 0b01111001#8], [0b11001011#8, 0b01111010#8], [0b11001011#8, 0b01111011#8],
   [0b11001011#8, 0b01111100#8], [0b11001011#8, 0b01111101#8], [0b11001011#8, 0b01111110#8],
   [0b11001011#8, 0b01111111#8]] =
  List.map Except.ok [
   (.bit_6_b, []), (.bit_6_c, []), (.bit_6_d, []), (.bit_6_e, []), (.bit_6_h, []), (.bit_6_l, []), (.bit_6_mHL, []),
   (.bit_6_a, []), (.bit_7_b, []), (.bit_7_c, []), (.bit_7_d, []), (.bit_7_e, []), (.bit_7_h, []),
   (.bit_7_l, []), (.bit_7_mHL, []), (.bit_7_a, [])] := by rfl

theorem test_decode_prefixed_80 : List.map decode [
   [0b11001011#8, 0b10000000#8], [0b11001011#8, 0b10000001#8], [0b11001011#8, 0b10000010#8],
   [0b11001011#8, 0b10000011#8], [0b11001011#8, 0b10000100#8], [0b11001011#8, 0b10000101#8],
   [0b11001011#8, 0b10000110#8], [0b11001011#8, 0b10000111#8], [0b11001011#8, 0b10001000#8],
   [0b11001011#8, 0b10001001#8], [0b11001011#8, 0b10001010#8], [0b11001011#8, 0b10001011#8],
   [0b11001011#8, 0b10001100#8], [0b11001011#8, 0b10001101#8], [0b11001011#8, 0b10001110#8],
   [0b11001011#8, 0b10001111#8]] =
  List.map Except.ok [
   (.res_0_b, []), (.res_0_c, []), (.res_0_d, []), (.res_0_e, []), (.res_0_h, []), (.res_0_l, []), (.res_0_mHL, []),
   (.res_0_a, []), (.res_1_b, []), (.res_1_c, []), (.res_1_d, []), (.res_1_e, []), (.res_1_h, []),
   (.res_1_l, []), (.res_1_mHL, []), (.res_1_a, [])] := by rfl

theorem test_decode_prefixed_90 : List.map decode [
   [0b11001011#8, 0b10010000#8], [0b11001011#8, 0b10010001#8], [0b11001011#8, 0b10010010#8],
   [0b11001011#8, 0b10010011#8], [0b11001011#8, 0b10010100#8], [0b11001011#8, 0b10010101#8],
   [0b11001011#8, 0b10010110#8], [0b11001011#8, 0b10010111#8], [0b11001011#8, 0b10011000#8],
   [0b11001011#8, 0b10011001#8], [0b11001011#8, 0b10011010#8], [0b11001011#8, 0b10011011#8],
   [0b11001011#8, 0b10011100#8], [0b11001011#8, 0b10011101#8], [0b11001011#8, 0b10011110#8],
   [0b11001011#8, 0b10011111#8]] =
  List.map Except.ok [
   (.res_2_b, []), (.res_2_c, []), (.res_2_d, []), (.res_2_e, []), (.res_2_h, []), (.res_2_l, []), (.res_2_mHL, []),
   (.res_2_a, []), (.res_3_b, []), (.res_3_c, []), (.res_3_d, []), (.res_3_e, []), (.res_3_h, []),
   (.res_3_l, []), (.res_3_mHL, []), (.res_3_a, [])] := by rfl

theorem test_decode_prefixed_A0 : List.map decode [
   [0b11001011#8, 0b10100000#8], [0b11001011#8, 0b10100001#8], [0b11001011#8, 0b10100010#8],
   [0b11001011#8, 0b10100011#8], [0b11001011#8, 0b10100100#8], [0b11001011#8, 0b10100101#8],
   [0b11001011#8, 0b10100110#8], [0b11001011#8, 0b10100111#8], [0b11001011#8, 0b10101000#8],
   [0b11001011#8, 0b10101001#8], [0b11001011#8, 0b10101010#8], [0b11001011#8, 0b10101011#8],
   [0b11001011#8, 0b10101100#8], [0b11001011#8, 0b10101101#8], [0b11001011#8, 0b10101110#8],
   [0b11001011#8, 0b10101111#8]] =
  List.map Except.ok [
   (.res_4_b, []), (.res_4_c, []), (.res_4_d, []), (.res_4_e, []), (.res_4_h, []), (.res_4_l, []), (.res_4_mHL, []),
   (.res_4_a, []), (.res_5_b, []), (.res_5_c, []), (.res_5_d, []), (.res_5_e, []), (.res_5_h, []),
   (.res_5_l, []), (.res_5_mHL, []), (.res_5_a, [])] := by rfl

theorem test_decode_prefixed_B0 : List.map decode [
   [0b11001011#8, 0b10110000#8], [0b11001011#8, 0b10110001#8], [0b11001011#8, 0b10110010#8],
   [0b11001011#8, 0b10110011#8], [0b11001011#8, 0b10110100#8], [0b11001011#8, 0b10110101#8],
   [0b11001011#8, 0b10110110#8], [0b11001011#8, 0b10110111#8], [0b11001011#8, 0b10111000#8],
   [0b11001011#8, 0b10111001#8], [0b11001011#8, 0b10111010#8], [0b11001011#8, 0b10111011#8],
   [0b11001011#8, 0b10111100#8], [0b11001011#8, 0b10111101#8], [0b11001011#8, 0b10111110#8],
   [0b11001011#8, 0b10111111#8]] =
  List.map Except.ok [
   (.res_6_b, []), (.res_6_c, []), (.res_6_d, []), (.res_6_e, []), (.res_6_h, []), (.res_6_l, []), (.res_6_mHL, []),
   (.res_6_a, []), (.res_7_b, []), (.res_7_c, []), (.res_7_d, []), (.res_7_e, []), (.res_7_h, []),
   (.res_7_l, []), (.res_7_mHL, []), (.res_7_a, [])] := by rfl

theorem test_decode_prefixed_C0 : List.map decode [
   [0b11001011#8, 0b11000000#8], [0b11001011#8, 0b11000001#8], [0b11001011#8, 0b11000010#8],
   [0b11001011#8, 0b11000011#8], [0b11001011#8, 0b11000100#8], [0b11001011#8, 0b11000101#8],
   [0b11001011#8, 0b11000110#8], [0b11001011#8, 0b11000111#8], [0b11001011#8, 0b11001000#8],
   [0b11001011#8, 0b11001001#8], [0b11001011#8, 0b11001010#8], [0b11001011#8, 0b11001011#8],
   [0b11001011#8, 0b11001100#8], [0b11001011#8, 0b11001101#8], [0b11001011#8, 0b11001110#8],
   [0b11001011#8, 0b11001111#8]] =
  List.map Except.ok [
   (.set_0_b, []), (.set_0_c, []), (.set_0_d, []), (.set_0_e, []), (.set_0_h, []), (.set_0_l, []), (.set_0_mHL, []),
   (.set_0_a, []), (.set_1_b, []), (.set_1_c, []), (.set_1_d, []), (.set_1_e, []), (.set_1_h, []),
   (.set_1_l, []), (.set_1_mHL, []), (.set_1_a, [])] := by rfl

theorem test_decode_prefixed_D0 : List.map decode [
   [0b11001011#8, 0b11010000#8], [0b11001011#8, 0b11010001#8], [0b11001011#8, 0b11010010#8],
   [0b11001011#8, 0b11010011#8], [0b11001011#8, 0b11010100#8], [0b11001011#8, 0b11010101#8],
   [0b11001011#8, 0b11010110#8], [0b11001011#8, 0b11010111#8], [0b11001011#8, 0b11011000#8],
   [0b11001011#8, 0b11011001#8], [0b11001011#8, 0b11011010#8], [0b11001011#8, 0b11011011#8],
   [0b11001011#8, 0b11011100#8], [0b11001011#8, 0b11011101#8], [0b11001011#8, 0b11011110#8],
   [0b11001011#8, 0b11011111#8]] =
  List.map Except.ok [
   (.set_2_b, []), (.set_2_c, []), (.set_2_d, []), (.set_2_e, []), (.set_2_h, []), (.set_2_l, []), (.set_2_mHL, []),
   (.set_2_a, []), (.set_3_b, []), (.set_3_c, []), (.set_3_d, []), (.set_3_e, []), (.set_3_h, []),
   (.set_3_l, []), (.set_3_mHL, []), (.set_3_a, [])] := by rfl

theorem test_decode_prefixed_E0 : List.map decode [
   [0b11001011#8, 0b11100000#8], [0b11001011#8, 0b11100001#8], [0b11001011#8, 0b11100010#8],
   [0b11001011#8, 0b11100011#8], [0b11001011#8, 0b11100100#8], [0b11001011#8, 0b11100101#8],
   [0b11001011#8, 0b11100110#8], [0b11001011#8, 0b11100111#8], [0b11001011#8, 0b11101000#8],
   [0b11001011#8, 0b11101001#8], [0b11001011#8, 0b11101010#8], [0b11001011#8, 0b11101011#8],
   [0b11001011#8, 0b11101100#8], [0b11001011#8, 0b11101101#8], [0b11001011#8, 0b11101110#8],
   [0b11001011#8, 0b11101111#8]] =
  List.map Except.ok [
   (.set_4_b, []), (.set_4_c, []), (.set_4_d, []), (.set_4_e, []), (.set_4_h, []), (.set_4_l, []), (.set_4_mHL, []),
   (.set_4_a, []), (.set_5_b, []), (.set_5_c, []), (.set_5_d, []), (.set_5_e, []), (.set_5_h, []),
   (.set_5_l, []), (.set_5_mHL, []), (.set_5_a, [])] := by rfl

theorem test_decode_prefixed_F0 : List.map decode [
   [0b11001011#8, 0b11110000#8], [0b11001011#8, 0b11110001#8], [0b11001011#8, 0b11110010#8],
   [0b11001011#8, 0b11110011#8], [0b11001011#8, 0b11110100#8], [0b11001011#8, 0b11110101#8],
   [0b11001011#8, 0b11110110#8], [0b11001011#8, 0b11110111#8], [0b11001011#8, 0b11111000#8],
   [0b11001011#8, 0b11111001#8], [0b11001011#8, 0b11111010#8], [0b11001011#8, 0b11111011#8],
   [0b11001011#8, 0b11111100#8], [0b11001011#8, 0b11111101#8], [0b11001011#8, 0b11111110#8],
   [0b11001011#8, 0b11111111#8]] =
  List.map Except.ok [
   (.set_6_b, []), (.set_6_c, []), (.set_6_d, []), (.set_6_e, []), (.set_6_h, []), (.set_6_l, []), (.set_6_mHL, []),
   (.set_6_a, []), (.set_7_b, []), (.set_7_c, []), (.set_7_d, []), (.set_7_e, []), (.set_7_h, []),
   (.set_7_l, []), (.set_7_mHL, []), (.set_7_a, [])] := by rfl

/-- 30_encoding.md R80: the eleven undefined bytes, refused by name. -/
theorem test_decode_undefined : List.map decode [
    [0xD3#8], [0xDB#8], [0xDD#8], [0xE3#8], [0xE4#8], [0xEB#8], [0xEC#8], [0xED#8], [0xF4#8], [0xFC#8], [0xFD#8]] =
  List.map (fun b => Except.error (.undefinedOpcode false b)) [
    0xD3#8, 0xDB#8, 0xDD#8, 0xE3#8, 0xE4#8, 0xEB#8, 0xEC#8, 0xED#8, 0xF4#8, 0xFC#8, 0xFD#8] := by rfl

theorem test_decode_truncated : decode [0xC3#8, 0x34#8] = .error .truncated := by rfl

/-- The marker and the byte after it are one instruction (45_system.md R204). -/
theorem test_decode_marker : decode [0xCB#8, 0x37#8, 0x00#8] = .ok (.swap_a, [0x00#8]) := by rfl

theorem test_decodeTableWord_unprefixed : decodeTableWord 24 0x1234C3 = some (.jp_a16 0x1234#16) := by rfl

theorem test_decodeTableWord_prefixed : decodeTableWord 16 0xCB7C = some .bit_7_h := by rfl

theorem test_withFetchWord_unprefixed : (match step (State.reset.withFetchWord 16 0x423E) with
    | .next t => t.rA == 0x42#8 && t.pc == 0x0002#16
    | .fault _ => false
    | .refused _ => false) = true := by decide

theorem test_withFetchWord_prefixed : (match step ({ State.reset with rA := 0x12#8 }.withFetchWord 16 0xCB37) with
    | .next t => t.rA == 0x21#8 && t.pc == 0x0002#16
    | .fault _ => false
    | .refused _ => false) = true := by decide

/-! ## One step: the vectors of 95_test_vectors.md -/

/-- The bytes at `a`, and `pc` there. -/
def placed (a : Word) (bytes : List Byte) (s : State) : State := { s.pokeBytes a bytes with pc := a }

/-- The step completes in a state that passes the check. -/
def gives (s : State) (p : State → Bool) : Bool :=
  match step s with
  | .next t => p t
  | .fault _ => false
  | .refused _ => false

theorem test_vector_L0_R115 : gives (placed 0x0100#16 [0x01#8, 0x34#8, 0x12#8]
    State.reset)
  (fun t => t.rB == 0x12#8 && t.rC == 0x34#8 && t.f.toByte == 0x00#8 && t.sp == 0x0000#16 &&
    t.pc == 0x0103#16 && t.ime == false && t.cycles == 12) = true := by decide

theorem test_vector_L1_R96 : gives (placed 0x0100#16 [0x78#8]
    { State.reset with rB := 0x5A#8 })
  (fun t => t.rA == 0x5A#8 && t.f.toByte == 0x00#8 && t.sp == 0x0000#16 && t.pc == 0x0101#16 &&
    t.ime == false && t.cycles == 4) = true := by decide

theorem test_vector_L3_R97 : gives (placed 0x0100#16 [0x3E#8, 0x42#8]
    State.reset)
  (fun t => t.rA == 0x42#8 && t.f.toByte == 0x00#8 && t.sp == 0x0000#16 && t.pc == 0x0102#16 &&
    t.ime == false && t.cycles == 8) = true := by decide

theorem test_vector_L4_R98 : gives (placed 0x0100#16 [0x66#8]
    { State.reset with rH := 0xC1#8, rL := 0x23#8, mem := Memory.ofCells [(0xC123#16, 0x80#8)] })
  (fun t => t.rH == 0x80#8 && t.f.toByte == 0x00#8 && t.sp == 0x0000#16 && t.pc == 0x0101#16 &&
    t.ime == false && t.cycles == 8) = true := by decide

theorem test_vector_L5_R99 : gives (placed 0x0100#16 [0x74#8]
    { State.reset with rH := 0xC1#8, rL := 0x23#8 })
  (fun t => t.f.toByte == 0x00#8 && t.sp == 0x0000#16 && t.pc == 0x0101#16 &&
    t.peek 0xC123#16 == 0xC1#8 && t.ime == false && t.cycles == 8) = true := by decide

theorem test_vector_L6_R100 : gives (placed 0x0100#16 [0x36#8, 0x99#8]
    { State.reset with rH := 0xC0#8, rL := 0x10#8 })
  (fun t => t.f.toByte == 0x00#8 && t.sp == 0x0000#16 && t.pc == 0x0102#16 &&
    t.peek 0xC010#16 == 0x99#8 && t.ime == false && t.cycles == 12) = true := by decide

theorem test_vector_L7_R101 : gives (placed 0x0100#16 [0x0A#8]
    { State.reset with rB := 0xC1#8, rC := 0x00#8, mem := Memory.ofCells [(0xC100#16, 0x3C#8)] })
  (fun t => t.rA == 0x3C#8 && t.f.toByte == 0x00#8 && t.sp == 0x0000#16 && t.pc == 0x0101#16 &&
    t.ime == false && t.cycles == 8) = true := by decide

theorem test_vector_L8_R104 : gives (placed 0x0100#16 [0x12#8]
    { State.reset with rD := 0xC2#8, rE := 0x00#8, rA := 0x10#8 })
  (fun t => t.f.toByte == 0x00#8 && t.sp == 0x0000#16 && t.pc == 0x0101#16 &&
    t.peek 0xC200#16 == 0x10#8 && t.ime == false && t.cycles == 8) = true := by decide

theorem test_vector_L9_R105 : gives (placed 0x0100#16 [0xFA#8, 0x0F#8, 0xFF#8]
    State.reset)
  (fun t => t.rA == 0xE0#8 && t.f.toByte == 0x00#8 && t.sp == 0x0000#16 && t.pc == 0x0103#16 &&
    t.ime == false && t.cycles == 16) = true := by decide

theorem test_vector_L10_R106 : gives (placed 0x0100#16 [0xEA#8, 0xFF#8, 0xFF#8]
    { State.reset with rA := 0x05#8 })
  (fun t => t.f.toByte == 0x00#8 && t.sp == 0x0000#16 && t.pc == 0x0103#16 &&
    t.ieReg == 0x05#5 && t.ime == false && t.cycles == 16) = true := by decide

theorem test_vector_L12_R107 : gives (placed 0x0100#16 [0xF0#8, 0x0F#8]
    { State.reset with ifReg := 0x05#5 })
  (fun t => t.rA == 0xE5#8 && t.f.toByte == 0x00#8 && t.sp == 0x0000#16 && t.pc == 0x0102#16 &&
    t.ime == false && t.cycles == 12) = true := by decide

theorem test_vector_L13_R108 : gives (placed 0x0100#16 [0xE0#8, 0x80#8]
    { State.reset with rA := 0x80#8 })
  (fun t => t.f.toByte == 0x00#8 && t.sp == 0x0000#16 && t.pc == 0x0102#16 &&
    t.peek 0xFF80#16 == 0x80#8 && t.ime == false && t.cycles == 12) = true := by decide

theorem test_vector_L14_R109 : gives (placed 0x0100#16 [0xF2#8]
    { State.reset with rC := 0x80#8, mem := Memory.ofCells [(0xFF80#16, 0x11#8)] })
  (fun t => t.rA == 0x11#8 && t.f.toByte == 0x00#8 && t.sp == 0x0000#16 && t.pc == 0x0101#16 &&
    t.ime == false && t.cycles == 8) = true := by decide

theorem test_vector_L15_R110 : gives (placed 0x0100#16 [0xE2#8]
    { State.reset with rC := 0x81#8, rA := 0x22#8 })
  (fun t => t.f.toByte == 0x00#8 && t.sp == 0x0000#16 && t.pc == 0x0101#16 &&
    t.peek 0xFF81#16 == 0x22#8 && t.ime == false && t.cycles == 8) = true := by decide

theorem test_vector_L16_R111 : gives (placed 0x0100#16 [0x2A#8]
    { State.reset with rH := 0xC0#8, rL := 0x00#8, mem := Memory.ofCells [(0xC000#16, 0x56#8)] })
  (fun t => t.rA == 0x56#8 && t.rL == 0x01#8 && t.f.toByte == 0x00#8 && t.sp == 0x0000#16 &&
    t.pc == 0x0101#16 && t.ime == false && t.cycles == 8) = true := by decide

theorem test_vector_L18_R112 : gives (placed 0xC000#16 [0x3A#8]
    { State.reset with rH := 0x00#8, rL := 0x00#8 })
  (fun t => t.rH == 0xFF#8 && t.rL == 0xFF#8 && t.f.toByte == 0x00#8 && t.sp == 0x0000#16 &&
    t.pc == 0xC001#16 && t.ime == false && t.cycles == 8) = true := by decide

theorem test_vector_L19_R113 : gives (placed 0x0100#16 [0x22#8]
    { State.reset with rH := 0xC0#8, rL := 0x00#8, rA := 0x01#8 })
  (fun t => t.rL == 0x01#8 && t.f.toByte == 0x00#8 && t.sp == 0x0000#16 && t.pc == 0x0101#16 &&
    t.peek 0xC000#16 == 0x01#8 && t.ime == false && t.cycles == 8) = true := by decide

theorem test_vector_L20_R114 : gives (placed 0x0100#16 [0x32#8]
    { State.reset with rH := 0xDF#8, rL := 0xFF#8, rA := 0x00#8, mem := Memory.ofCells [(0xDFFF#16, 0x77#8)] })
  (fun t => t.rL == 0xFE#8 && t.f.toByte == 0x00#8 && t.sp == 0x0000#16 && t.pc == 0x0101#16 &&
    t.peek 0xDFFF#16 == 0x00#8 && t.ime == false && t.cycles == 8) = true := by decide

theorem test_vector_L22_R116 : gives (placed 0x0100#16 [0x08#8, 0x00#8, 0xC1#8]
    { State.reset with sp := 0xFFF8#16 })
  (fun t => t.f.toByte == 0x00#8 && t.sp == 0xFFF8#16 && t.pc == 0x0103#16 &&
    t.peek 0xC100#16 == 0xF8#8 && t.peek 0xC101#16 == 0xFF#8 && t.ime == false && t.cycles == 20) = true := by decide

theorem test_vector_L23_R116 : gives (placed 0xC000#16 [0x08#8, 0xFF#8, 0xFF#8]
    { State.reset with sp := 0x1234#16 })
  (fun t => t.f.toByte == 0x00#8 && t.sp == 0x1234#16 && t.pc == 0xC003#16 &&
    t.peek 0x0000#16 == 0x12#8 && t.ieReg == 0x14#5 && t.ime == false && t.cycles == 20) = true := by decide

theorem test_vector_L24_R117 : gives (placed 0x0100#16 [0xF9#8]
    { State.reset with rH := 0xDF#8, rL := 0xF0#8 })
  (fun t => t.f.toByte == 0x00#8 && t.sp == 0xDFF0#16 && t.pc == 0x0101#16 && t.ime == false &&
    t.cycles == 8) = true := by decide

theorem test_vector_L25_R118 : gives (placed 0x0100#16 [0xC5#8]
    { State.reset with sp := 0xFFFE#16, rB := 0x12#8, rC := 0x34#8 })
  (fun t => t.f.toByte == 0x00#8 && t.sp == 0xFFFC#16 && t.pc == 0x0101#16 &&
    t.peek 0xFFFC#16 == 0x34#8 && t.peek 0xFFFD#16 == 0x12#8 && t.ime == false && t.cycles == 16) = true := by decide

theorem test_vector_L27_R119 : gives (placed 0x0100#16 [0xD1#8]
    { State.reset with sp := 0xFFFC#16, mem := Memory.ofCells [(0xFFFC#16, 0x34#8), (0xFFFD#16, 0x12#8)] })
  (fun t => t.rD == 0x12#8 && t.rE == 0x34#8 && t.f.toByte == 0x00#8 && t.sp == 0xFFFE#16 &&
    t.pc == 0x0101#16 && t.ime == false && t.cycles == 12) = true := by decide

theorem test_vector_L28_R120 : gives (placed 0x0100#16 [0xF1#8]
    { State.reset with sp := 0xFFFC#16, mem := Memory.ofCells [(0xFFFC#16, 0xFF#8), (0xFFFD#16, 0x12#8)] })
  (fun t => t.rA == 0x12#8 && t.f.toByte == 0xF0#8 && t.sp == 0xFFFE#16 && t.pc == 0x0101#16 &&
    t.ime == false && t.cycles == 12) = true := by decide

theorem test_vector_L29_R119 : gives (placed 0x0100#16 [0xC1#8]
    { State.reset with sp := 0xFFFF#16, ieReg := 0x03#5 })
  (fun t => t.rC == 0xE3#8 && t.f.toByte == 0x00#8 && t.sp == 0x0001#16 && t.pc == 0x0101#16 &&
    t.ime == false && t.cycles == 12) = true := by decide

theorem test_vector_A1_R123 : gives (placed 0x0100#16 [0x87#8]
    { State.reset with rA := 0x07#8 })
  (fun t => t.rA == 0x0E#8 && t.f.toByte == 0x00#8 && t.sp == 0x0000#16 && t.pc == 0x0101#16 &&
    t.ime == false && t.cycles == 4) = true := by decide

theorem test_vector_A5_R124 : gives (placed 0x0100#16 [0x86#8]
    { State.reset with rA := 0x3A#8, rH := 0xC0#8, rL := 0x00#8, mem := Memory.ofCells [(0xC000#16, 0xC6#8)] })
  (fun t => t.rA == 0x00#8 && t.f.toByte == 0xB0#8 && t.sp == 0x0000#16 && t.pc == 0x0101#16 &&
    t.ime == false && t.cycles == 8) = true := by decide

theorem test_vector_A6_R125 : gives (placed 0x0100#16 [0xC6#8, 0x01#8]
    { State.reset with rA := 0xFF#8 })
  (fun t => t.rA == 0x00#8 && t.f.toByte == 0xB0#8 && t.sp == 0x0000#16 && t.pc == 0x0102#16 &&
    t.ime == false && t.cycles == 8) = true := by decide

theorem test_vector_A7_R126 : gives (placed 0x0100#16 [0x8B#8]
    { State.reset with rA := 0xE1#8, rE := 0x0F#8, f := Flags.ofByte 0x10#8 })
  (fun t => t.rA == 0xF1#8 && t.f.toByte == 0x20#8 && t.sp == 0x0000#16 && t.pc == 0x0101#16 &&
    t.ime == false && t.cycles == 4) = true := by decide

theorem test_vector_A8_R126 : gives (placed 0x0100#16 [0x88#8]
    { State.reset with rA := 0x12#8, rB := 0xFF#8, f := Flags.ofByte 0x10#8 })
  (fun t => t.f.toByte == 0x30#8 && t.sp == 0x0000#16 && t.pc == 0x0101#16 && t.ime == false &&
    t.cycles == 4) = true := by decide

theorem test_vector_A9_R128 : gives (placed 0x0100#16 [0xCE#8, 0x00#8]
    { State.reset with rA := 0x0F#8, f := Flags.ofByte 0x10#8 })
  (fun t => t.rA == 0x10#8 && t.f.toByte == 0x20#8 && t.sp == 0x0000#16 && t.pc == 0x0102#16 &&
    t.ime == false && t.cycles == 8) = true := by decide

theorem test_vector_A10_R129 : gives (placed 0x0100#16 [0x93#8]
    { State.reset with rA := 0x3E#8, rE := 0x3E#8 })
  (fun t => t.rA == 0x00#8 && t.f.toByte == 0xC0#8 && t.sp == 0x0000#16 && t.pc == 0x0101#16 &&
    t.ime == false && t.cycles == 4) = true := by decide

theorem test_vector_A12_R130 : gives (placed 0x0100#16 [0x96#8]
    { State.reset with rA := 0x3E#8, rH := 0xC0#8, rL := 0x00#8, mem := Memory.ofCells [(0xC000#16, 0x40#8)] })
  (fun t => t.rA == 0xFE#8 && t.f.toByte == 0x50#8 && t.sp == 0x0000#16 && t.pc == 0x0101#16 &&
    t.ime == false && t.cycles == 8) = true := by decide

theorem test_vector_A14_R132 : gives (placed 0x0100#16 [0x9C#8]
    { State.reset with rA := 0x3B#8, rH := 0x2A#8, f := Flags.ofByte 0x10#8 })
  (fun t => t.rA == 0x10#8 && t.f.toByte == 0x40#8 && t.sp == 0x0000#16 && t.pc == 0x0101#16 &&
    t.ime == false && t.cycles == 4) = true := by decide

theorem test_vector_A15_R134 : gives (placed 0x0100#16 [0xDE#8, 0xFF#8]
    { State.reset with rA := 0x00#8, f := Flags.ofByte 0x10#8 })
  (fun t => t.f.toByte == 0xF0#8 && t.sp == 0x0000#16 && t.pc == 0x0102#16 && t.ime == false &&
    t.cycles == 8) = true := by decide

theorem test_vector_A16_R132 : gives (placed 0x0100#16 [0x9F#8]
    { State.reset with rA := 0x55#8, f := Flags.ofByte 0x10#8 })
  (fun t => t.rA == 0xFF#8 && t.f.toByte == 0x70#8 && t.sp == 0x0000#16 && t.pc == 0x0101#16 &&
    t.ime == false && t.cycles == 4) = true := by decide

theorem test_vector_A17_R135 : gives (placed 0x0100#16 [0xA5#8]
    { State.reset with rA := 0x5A#8, rL := 0x3F#8 })
  (fun t => t.rA == 0x1A#8 && t.f.toByte == 0x20#8 && t.sp == 0x0000#16 && t.pc == 0x0101#16 &&
    t.ime == false && t.cycles == 4) = true := by decide

theorem test_vector_A18_R137 : gives (placed 0x0100#16 [0xE6#8, 0x00#8]
    { State.reset with rA := 0x5A#8 })
  (fun t => t.rA == 0x00#8 && t.f.toByte == 0xA0#8 && t.sp == 0x0000#16 && t.pc == 0x0102#16 &&
    t.ime == false && t.cycles == 8) = true := by decide

theorem test_vector_A19_R138 : gives (placed 0x0100#16 [0xAF#8]
    { State.reset with rA := 0x42#8, f := Flags.ofByte 0xF0#8 })
  (fun t => t.rA == 0x00#8 && t.f.toByte == 0x80#8 && t.sp == 0x0000#16 && t.pc == 0x0101#16 &&
    t.ime == false && t.cycles == 4) = true := by decide

theorem test_vector_A20_R140 : gives (placed 0x0100#16 [0xEE#8, 0x0F#8]
    { State.reset with rA := 0xFF#8 })
  (fun t => t.rA == 0xF0#8 && t.f.toByte == 0x00#8 && t.sp == 0x0000#16 && t.pc == 0x0102#16 &&
    t.ime == false && t.cycles == 8) = true := by decide

theorem test_vector_A21_R141 : gives (placed 0x0100#16 [0xB7#8]
    { State.reset with rA := 0x00#8, f := Flags.ofByte 0x10#8 })
  (fun t => t.f.toByte == 0x80#8 && t.sp == 0x0000#16 && t.pc == 0x0101#16 && t.ime == false &&
    t.cycles == 4) = true := by decide

theorem test_vector_A22_R142 : gives (placed 0x0100#16 [0xB6#8]
    { State.reset with rA := 0x5A#8, rH := 0xC0#8, rL := 0x00#8, mem := Memory.ofCells [(0xC000#16, 0x0F#8)] })
  (fun t => t.rA == 0x5F#8 && t.f.toByte == 0x00#8 && t.sp == 0x0000#16 && t.pc == 0x0101#16 &&
    t.ime == false && t.cycles == 8) = true := by decide

theorem test_vector_A23_R146 : gives (placed 0x0100#16 [0xFE#8, 0x3C#8]
    { State.reset with rA := 0x3C#8 })
  (fun t => t.f.toByte == 0xC0#8 && t.sp == 0x0000#16 && t.pc == 0x0102#16 && t.ime == false &&
    t.cycles == 8) = true := by decide

theorem test_vector_A25_R144 : gives (placed 0x0100#16 [0xB8#8]
    { State.reset with rA := 0x3C#8, rB := 0x2F#8 })
  (fun t => t.f.toByte == 0x60#8 && t.sp == 0x0000#16 && t.pc == 0x0101#16 && t.ime == false &&
    t.cycles == 4) = true := by decide

theorem test_vector_A26_R147 : gives (placed 0x0100#16 [0x3C#8]
    { State.reset with rA := 0xFF#8, f := Flags.ofByte 0x00#8 })
  (fun t => t.rA == 0x00#8 && t.f.toByte == 0xA0#8 && t.sp == 0x0000#16 && t.pc == 0x0101#16 &&
    t.ime == false && t.cycles == 4) = true := by decide

theorem test_vector_A28_R148 : gives (placed 0x0100#16 [0x34#8]
    { State.reset with rH := 0xC0#8, rL := 0x00#8, mem := Memory.ofCells [(0xC000#16, 0x7F#8)] })
  (fun t => t.f.toByte == 0x20#8 && t.sp == 0x0000#16 && t.pc == 0x0101#16 &&
    t.peek 0xC000#16 == 0x80#8 && t.ime == false && t.cycles == 12) = true := by decide

theorem test_vector_A29_R149 : gives (placed 0x0100#16 [0x2D#8]
    { State.reset with rL := 0x01#8 })
  (fun t => t.rL == 0x00#8 && t.f.toByte == 0xC0#8 && t.sp == 0x0000#16 && t.pc == 0x0101#16 &&
    t.ime == false && t.cycles == 4) = true := by decide

theorem test_vector_A31_R150 : gives (placed 0x0100#16 [0x35#8]
    { State.reset with rH := 0xC0#8, rL := 0x00#8, mem := Memory.ofCells [(0xC000#16, 0x10#8)] })
  (fun t => t.f.toByte == 0x60#8 && t.sp == 0x0000#16 && t.pc == 0x0101#16 &&
    t.peek 0xC000#16 == 0x0F#8 && t.ime == false && t.cycles == 12) = true := by decide

theorem test_vector_A32_R151 : gives (placed 0x0100#16 [0x27#8]
    { State.reset with rA := 0x7D#8, f := Flags.ofByte 0x00#8 })
  (fun t => t.rA == 0x83#8 && t.f.toByte == 0x00#8 && t.sp == 0x0000#16 && t.pc == 0x0101#16 &&
    t.ime == false && t.cycles == 4) = true := by decide

theorem test_vector_A35_R151 : gives (placed 0x0100#16 [0x27#8]
    { State.reset with rA := 0xA0#8, f := Flags.ofByte 0x50#8 })
  (fun t => t.rA == 0x40#8 && t.f.toByte == 0x50#8 && t.sp == 0x0000#16 && t.pc == 0x0101#16 &&
    t.ime == false && t.cycles == 4) = true := by decide

theorem test_vector_A37_R152 : gives (placed 0x0100#16 [0x2F#8]
    { State.reset with rA := 0x35#8 })
  (fun t => t.rA == 0xCA#8 && t.f.toByte == 0x60#8 && t.sp == 0x0000#16 && t.pc == 0x0101#16 &&
    t.ime == false && t.cycles == 4) = true := by decide

theorem test_vector_A38_R153 : gives (placed 0x0100#16 [0x37#8]
    { State.reset with f := Flags.ofByte 0xE0#8 })
  (fun t => t.f.toByte == 0x90#8 && t.sp == 0x0000#16 && t.pc == 0x0101#16 && t.ime == false &&
    t.cycles == 4) = true := by decide

theorem test_vector_A39_R154 : gives (placed 0x0100#16 [0x3F#8]
    { State.reset with f := Flags.ofByte 0x30#8 })
  (fun t => t.f.toByte == 0x00#8 && t.sp == 0x0000#16 && t.pc == 0x0101#16 && t.ime == false &&
    t.cycles == 4) = true := by decide

theorem test_vector_W1_R156 : gives (placed 0x0100#16 [0x09#8]
    { State.reset with rH := 0x0F#8, rL := 0xFF#8, rB := 0x00#8, rC := 0x01#8, f := Flags.ofByte 0x80#8 })
  (fun t => t.rH == 0x10#8 && t.rL == 0x00#8 && t.f.toByte == 0xA0#8 && t.sp == 0x0000#16 &&
    t.pc == 0x0101#16 && t.ime == false && t.cycles == 8) = true := by decide

theorem test_vector_W2_R156 : gives (placed 0x0100#16 [0x19#8]
    { State.reset with rH := 0x10#8, rL := 0x00#8, rD := 0x00#8, rE := 0x00#8 })
  (fun t => t.f.toByte == 0x00#8 && t.sp == 0x0000#16 && t.pc == 0x0101#16 && t.ime == false &&
    t.cycles == 8) = true := by decide

theorem test_vector_W5_R157 : gives (placed 0x0100#16 [0x03#8]
    { State.reset with rB := 0xFF#8, rC := 0xFF#8, f := Flags.ofByte 0x00#8 })
  (fun t => t.rB == 0x00#8 && t.rC == 0x00#8 && t.f.toByte == 0x00#8 && t.sp == 0x0000#16 &&
    t.pc == 0x0101#16 && t.ime == false && t.cycles == 8) = true := by decide

theorem test_vector_W6_R158 : gives (placed 0x0100#16 [0x3B#8]
    { State.reset with sp := 0x0000#16 })
  (fun t => t.f.toByte == 0x00#8 && t.sp == 0xFFFF#16 && t.pc == 0x0101#16 && t.ime == false &&
    t.cycles == 8) = true := by decide

theorem test_vector_W7_R159 : gives (placed 0x0100#16 [0xE8#8, 0x08#8]
    { State.reset with sp := 0xFFF8#16 })
  (fun t => t.f.toByte == 0x30#8 && t.sp == 0x0000#16 && t.pc == 0x0102#16 && t.ime == false &&
    t.cycles == 16) = true := by decide

theorem test_vector_W8_R159 : gives (placed 0x0100#16 [0xE8#8, 0xFF#8]
    { State.reset with sp := 0x000F#16 })
  (fun t => t.f.toByte == 0x30#8 && t.sp == 0x000E#16 && t.pc == 0x0102#16 && t.ime == false &&
    t.cycles == 16) = true := by decide

theorem test_vector_W10_R160 : gives (placed 0x0100#16 [0xF8#8, 0x02#8]
    { State.reset with sp := 0xFFF8#16 })
  (fun t => t.rH == 0xFF#8 && t.rL == 0xFA#8 && t.f.toByte == 0x00#8 && t.sp == 0xFFF8#16 &&
    t.pc == 0x0102#16 && t.ime == false && t.cycles == 12) = true := by decide

theorem test_vector_B1_R161 : gives (placed 0x0100#16 [0x07#8]
    { State.reset with rA := 0x85#8 })
  (fun t => t.rA == 0x0B#8 && t.f.toByte == 0x10#8 && t.sp == 0x0000#16 && t.pc == 0x0101#16 &&
    t.ime == false && t.cycles == 4) = true := by decide

theorem test_vector_B2_R161 : gives (placed 0x0100#16 [0x07#8]
    { State.reset with rA := 0x00#8, f := Flags.ofByte 0x80#8 })
  (fun t => t.f.toByte == 0x00#8 && t.sp == 0x0000#16 && t.pc == 0x0101#16 && t.ime == false &&
    t.cycles == 4) = true := by decide

theorem test_vector_B3_R162 : gives (placed 0x0100#16 [0x0F#8]
    { State.reset with rA := 0x3B#8 })
  (fun t => t.rA == 0x9D#8 && t.f.toByte == 0x10#8 && t.sp == 0x0000#16 && t.pc == 0x0101#16 &&
    t.ime == false && t.cycles == 4) = true := by decide

theorem test_vector_B4_R163 : gives (placed 0x0100#16 [0x17#8]
    { State.reset with rA := 0x95#8, f := Flags.ofByte 0x10#8 })
  (fun t => t.rA == 0x2B#8 && t.f.toByte == 0x10#8 && t.sp == 0x0000#16 && t.pc == 0x0101#16 &&
    t.ime == false && t.cycles == 4) = true := by decide

theorem test_vector_B5_R164 : gives (placed 0x0100#16 [0x1F#8]
    { State.reset with rA := 0x81#8 })
  (fun t => t.rA == 0x40#8 && t.f.toByte == 0x10#8 && t.sp == 0x0000#16 && t.pc == 0x0101#16 &&
    t.ime == false && t.cycles == 4) = true := by decide

theorem test_vector_B6_R166 : gives (placed 0x0100#16 [0xCB#8, 0x00#8]
    { State.reset with rB := 0x85#8 })
  (fun t => t.rB == 0x0B#8 && t.f.toByte == 0x10#8 && t.sp == 0x0000#16 && t.pc == 0x0102#16 &&
    t.ime == false && t.cycles == 8) = true := by decide

theorem test_vector_B8_R168 : gives (placed 0x0100#16 [0xCB#8, 0x09#8]
    { State.reset with rC := 0x01#8 })
  (fun t => t.rC == 0x80#8 && t.f.toByte == 0x10#8 && t.sp == 0x0000#16 && t.pc == 0x0102#16 &&
    t.ime == false && t.cycles == 8) = true := by decide

theorem test_vector_B9_R170 : gives (placed 0x0100#16 [0xCB#8, 0x15#8]
    { State.reset with rL := 0x80#8 })
  (fun t => t.rL == 0x00#8 && t.f.toByte == 0x90#8 && t.sp == 0x0000#16 && t.pc == 0x0102#16 &&
    t.ime == false && t.cycles == 8) = true := by decide

theorem test_vector_B10_R172 : gives (placed 0x0100#16 [0xCB#8, 0x1F#8]
    { State.reset with rA := 0x01#8 })
  (fun t => t.rA == 0x00#8 && t.f.toByte == 0x90#8 && t.sp == 0x0000#16 && t.pc == 0x0102#16 &&
    t.ime == false && t.cycles == 8) = true := by decide

theorem test_vector_B11_R174 : gives (placed 0x0100#16 [0xCB#8, 0x22#8]
    { State.reset with rD := 0x80#8 })
  (fun t => t.rD == 0x00#8 && t.f.toByte == 0x90#8 && t.sp == 0x0000#16 && t.pc == 0x0102#16 &&
    t.ime == false && t.cycles == 8) = true := by decide

theorem test_vector_B12_R176 : gives (placed 0x0100#16 [0xCB#8, 0x2F#8]
    { State.reset with rA := 0x8A#8 })
  (fun t => t.rA == 0xC5#8 && t.f.toByte == 0x00#8 && t.sp == 0x0000#16 && t.pc == 0x0102#16 &&
    t.ime == false && t.cycles == 8) = true := by decide

theorem test_vector_B14_R178 : gives (placed 0x0100#16 [0xCB#8, 0x30#8]
    { State.reset with rB := 0xF0#8, f := Flags.ofByte 0x10#8 })
  (fun t => t.rB == 0x0F#8 && t.f.toByte == 0x00#8 && t.sp == 0x0000#16 && t.pc == 0x0102#16 &&
    t.ime == false && t.cycles == 8) = true := by decide

theorem test_vector_B15_R180 : gives (placed 0x0100#16 [0xCB#8, 0x3F#8]
    { State.reset with rA := 0x01#8 })
  (fun t => t.rA == 0x00#8 && t.f.toByte == 0x90#8 && t.sp == 0x0000#16 && t.pc == 0x0102#16 &&
    t.ime == false && t.cycles == 8) = true := by decide

theorem test_vector_B16_R167 : gives (placed 0x0100#16 [0xCB#8, 0x06#8]
    { State.reset with rH := 0xC0#8, rL := 0x00#8, mem := Memory.ofCells [(0xC000#16, 0x80#8)] })
  (fun t => t.f.toByte == 0x10#8 && t.sp == 0x0000#16 && t.pc == 0x0102#16 &&
    t.peek 0xC000#16 == 0x01#8 && t.ime == false && t.cycles == 16) = true := by decide

theorem test_vector_B17_R181 : gives (placed 0x0100#16 [0xCB#8, 0x3E#8]
    { State.reset with rH := 0xC0#8, rL := 0x00#8, mem := Memory.ofCells [(0xC000#16, 0xFF#8)] })
  (fun t => t.f.toByte == 0x10#8 && t.sp == 0x0000#16 && t.pc == 0x0102#16 &&
    t.peek 0xC000#16 == 0x7F#8 && t.ime == false && t.cycles == 16) = true := by decide

theorem test_vector_B18_R182 : gives (placed 0x0100#16 [0xCB#8, 0x7C#8]
    { State.reset with rH := 0x80#8, f := Flags.ofByte 0x10#8 })
  (fun t => t.f.toByte == 0x30#8 && t.sp == 0x0000#16 && t.pc == 0x0102#16 && t.ime == false &&
    t.cycles == 8) = true := by decide

theorem test_vector_B20_R183 : gives (placed 0x0100#16 [0xCB#8, 0x46#8]
    { State.reset with rH := 0xC0#8, rL := 0x00#8, mem := Memory.ofCells [(0xC000#16, 0x01#8)] })
  (fun t => t.f.toByte == 0x20#8 && t.sp == 0x0000#16 && t.pc == 0x0102#16 && t.ime == false &&
    t.cycles == 12) = true := by decide

theorem test_vector_B21_R184 : gives (placed 0x0100#16 [0xCB#8, 0xBF#8]
    { State.reset with rA := 0x80#8 })
  (fun t => t.rA == 0x00#8 && t.f.toByte == 0x00#8 && t.sp == 0x0000#16 && t.pc == 0x0102#16 &&
    t.ime == false && t.cycles == 8) = true := by decide

theorem test_vector_B22_R185 : gives (placed 0x0100#16 [0xCB#8, 0x8E#8]
    { State.reset with rH := 0xC0#8, rL := 0x00#8, mem := Memory.ofCells [(0xC000#16, 0xFF#8)] })
  (fun t => t.f.toByte == 0x00#8 && t.sp == 0x0000#16 && t.pc == 0x0102#16 &&
    t.peek 0xC000#16 == 0xFD#8 && t.ime == false && t.cycles == 16) = true := by decide

theorem test_vector_B23_R186 : gives (placed 0x0100#16 [0xCB#8, 0xDF#8]
    { State.reset with rA := 0x80#8 })
  (fun t => t.rA == 0x88#8 && t.f.toByte == 0x00#8 && t.sp == 0x0000#16 && t.pc == 0x0102#16 &&
    t.ime == false && t.cycles == 8) = true := by decide

theorem test_vector_B24_R187 : gives (placed 0x0100#16 [0xCB#8, 0xDE#8]
    { State.reset with rH := 0xC0#8, rL := 0x00#8 })
  (fun t => t.f.toByte == 0x00#8 && t.sp == 0x0000#16 && t.pc == 0x0102#16 &&
    t.peek 0xC000#16 == 0x08#8 && t.ime == false && t.cycles == 16) = true := by decide

theorem test_vector_T1_R188 : gives (placed 0x0100#16 [0xC3#8, 0x50#8, 0x01#8]
    State.reset)
  (fun t => t.f.toByte == 0x00#8 && t.sp == 0x0000#16 && t.pc == 0x0150#16 && t.ime == false &&
    t.cycles == 16) = true := by decide

theorem test_vector_T2_R189 : gives (placed 0x0200#16 [0xC2#8, 0x00#8, 0x40#8]
    { State.reset with f := Flags.ofByte 0x80#8 })
  (fun t => t.f.toByte == 0x80#8 && t.sp == 0x0000#16 && t.pc == 0x0203#16 && t.ime == false &&
    t.cycles == 12) = true := by decide

theorem test_vector_T3_R189 : gives (placed 0x0200#16 [0xC2#8, 0x00#8, 0x40#8]
    { State.reset with f := Flags.ofByte 0x00#8 })
  (fun t => t.f.toByte == 0x00#8 && t.sp == 0x0000#16 && t.pc == 0x4000#16 && t.ime == false &&
    t.cycles == 16) = true := by decide

theorem test_vector_T5_R190 : gives (placed 0x0100#16 [0xE9#8]
    { State.reset with rH := 0x40#8, rL := 0x00#8 })
  (fun t => t.f.toByte == 0x00#8 && t.sp == 0x0000#16 && t.pc == 0x4000#16 && t.ime == false &&
    t.cycles == 4) = true := by decide

theorem test_vector_T6_R191 : gives (placed 0x0100#16 [0x18#8, 0x05#8]
    State.reset)
  (fun t => t.f.toByte == 0x00#8 && t.sp == 0x0000#16 && t.pc == 0x0107#16 && t.ime == false &&
    t.cycles == 12) = true := by decide

theorem test_vector_T8_R191 : gives (placed 0x0000#16 [0x18#8, 0x80#8]
    State.reset)
  (fun t => t.f.toByte == 0x00#8 && t.sp == 0x0000#16 && t.pc == 0xFF82#16 && t.ime == false &&
    t.cycles == 12) = true := by decide

theorem test_vector_T9_R192 : gives (placed 0x0300#16 [0x30#8, 0xFD#8]
    { State.reset with f := Flags.ofByte 0x00#8 })
  (fun t => t.f.toByte == 0x00#8 && t.sp == 0x0000#16 && t.pc == 0x02FF#16 && t.ime == false &&
    t.cycles == 12) = true := by decide

theorem test_vector_T12_R193 : gives (placed 0x0150#16 [0xCD#8, 0x00#8, 0x20#8]
    { State.reset with sp := 0xFFFE#16 })
  (fun t => t.f.toByte == 0x00#8 && t.sp == 0xFFFC#16 && t.pc == 0x2000#16 &&
    t.peek 0xFFFC#16 == 0x53#8 && t.peek 0xFFFD#16 == 0x01#8 && t.ime == false && t.cycles == 24) = true := by decide

theorem test_vector_T13_R194 : gives (placed 0x0150#16 [0xCC#8, 0x00#8, 0x20#8]
    { State.reset with sp := 0xFFFE#16, f := Flags.ofByte 0x00#8 })
  (fun t => t.f.toByte == 0x00#8 && t.sp == 0xFFFE#16 && t.pc == 0x0153#16 && t.ime == false &&
    t.cycles == 12) = true := by decide

theorem test_vector_T15_R195 : gives (placed 0x0100#16 [0xC9#8]
    { State.reset with sp := 0xFFFC#16, mem := Memory.ofCells [(0xFFFC#16, 0x53#8), (0xFFFD#16, 0x01#8)] })
  (fun t => t.f.toByte == 0x00#8 && t.sp == 0xFFFE#16 && t.pc == 0x0153#16 && t.ime == false &&
    t.cycles == 16) = true := by decide

theorem test_vector_T16_R196 : gives (placed 0x0100#16 [0xC0#8]
    { State.reset with sp := 0xFFFC#16, f := Flags.ofByte 0x80#8, mem := Memory.ofCells [(0xFFFC#16, 0x53#8), (0xFFFD#16, 0x01#8)] })
  (fun t => t.f.toByte == 0x80#8 && t.sp == 0xFFFC#16 && t.pc == 0x0101#16 && t.ime == false &&
    t.cycles == 8) = true := by decide

theorem test_vector_T18_R197 : gives (placed 0x0100#16 [0xD9#8]
    { State.reset with sp := 0xFFFC#16, ime := false, mem := Memory.ofCells [(0xFFFC#16, 0x00#8), (0xFFFD#16, 0x03#8)] })
  (fun t => t.f.toByte == 0x00#8 && t.sp == 0xFFFE#16 && t.pc == 0x0300#16 && t.ime == true &&
    t.cycles == 16) = true := by decide

theorem test_vector_T19_R197 : gives (placed 0x0100#16 [0xD9#8]
    { State.reset with sp := 0xFFFC#16, ime := false, ieReg := 0x04#5, ifReg := 0x04#5, mem := Memory.ofCells [(0xFFFC#16, 0x00#8), (0xFFFD#16, 0x03#8)] })
  (fun t => t.f.toByte == 0x00#8 && t.sp == 0xFFFC#16 && t.pc == 0x0050#16 &&
    t.peek 0xFFFC#16 == 0x00#8 && t.peek 0xFFFD#16 == 0x03#8 && t.ifReg == 0x00#5 &&
    t.ime == false && t.cycles == 36) = true := by decide

theorem test_vector_T20_R198 : gives (placed 0x0200#16 [0xCF#8]
    { State.reset with sp := 0xFFFE#16 })
  (fun t => t.f.toByte == 0x00#8 && t.sp == 0xFFFC#16 && t.pc == 0x0008#16 &&
    t.peek 0xFFFC#16 == 0x01#8 && t.peek 0xFFFD#16 == 0x02#8 && t.ime == false && t.cycles == 16) = true := by decide

theorem test_vector_Y1_R199 : gives (placed 0x0100#16 [0x00#8]
    State.reset)
  (fun t => t.f.toByte == 0x00#8 && t.sp == 0x0000#16 && t.pc == 0x0101#16 && t.ime == false &&
    t.cycles == 4) = true := by decide

theorem test_vector_Y2_R200 : gives (placed 0x0200#16 [0x76#8]
    { State.reset with ime := true, ieReg := 0x04#5 })
  (fun t => t.f.toByte == 0x00#8 && t.sp == 0x0000#16 && t.pc == 0x0201#16 && t.ime == true &&
    t.mode == .halted && t.cycles == 4) = true := by decide

theorem test_vector_Y4_R200 : gives (placed 0x0200#16 [0x76#8]
    { State.reset with ime := true, ieReg := 0x01#5, ifReg := 0x01#5, sp := 0xFFFE#16 })
  (fun t => t.f.toByte == 0x00#8 && t.sp == 0xFFFC#16 && t.pc == 0x0040#16 &&
    t.peek 0xFFFC#16 == 0x01#8 && t.peek 0xFFFD#16 == 0x02#8 && t.ifReg == 0x00#5 &&
    t.ime == false && t.cycles == 24) = true := by decide

theorem test_vector_Y5_R201 : gives (placed 0x0300#16 [0x10#8, 0x00#8]
    State.reset)
  (fun t => t.f.toByte == 0x00#8 && t.sp == 0x0000#16 && t.pc == 0x0302#16 && t.ime == false &&
    t.cycles == 4) = true := by decide

theorem test_vector_Y6_R202 : gives (placed 0x0100#16 [0xF3#8]
    { State.reset with ime := true, ieReg := 0x01#5, ifReg := 0x01#5 })
  (fun t => t.f.toByte == 0x00#8 && t.sp == 0x0000#16 && t.pc == 0x0101#16 && t.ime == false &&
    t.cycles == 4) = true := by decide

theorem test_vector_Y10_R204 : gives (placed 0x0100#16 [0xCB#8, 0x37#8]
    { State.reset with rA := 0x12#8 })
  (fun t => t.rA == 0x21#8 && t.f.toByte == 0x00#8 && t.sp == 0x0000#16 && t.pc == 0x0102#16 &&
    t.ime == false && t.cycles == 8) = true := by decide

theorem test_vector_I1_R219 : gives (placed 0x0100#16 [0x00#8]
    { State.reset with ime := true, ieReg := 0x05#5, ifReg := 0x05#5, sp := 0xFFFE#16 })
  (fun t => t.f.toByte == 0x00#8 && t.sp == 0xFFFC#16 && t.pc == 0x0040#16 &&
    t.peek 0xFFFC#16 == 0x01#8 && t.peek 0xFFFD#16 == 0x01#8 && t.ifReg == 0x04#5 &&
    t.ime == false && t.cycles == 24) = true := by decide

theorem test_vector_I2_R219 : gives (placed 0x0100#16 [0x00#8]
    { State.reset with ime := true, ieReg := 0x1E#5, ifReg := 0x1F#5, sp := 0xFFFE#16 })
  (fun t => t.f.toByte == 0x00#8 && t.sp == 0xFFFC#16 && t.pc == 0x0048#16 &&
    t.peek 0xFFFC#16 == 0x01#8 && t.peek 0xFFFD#16 == 0x01#8 && t.ifReg == 0x1D#5 &&
    t.ime == false && t.cycles == 24) = true := by decide

theorem test_vector_I3_R221 : gives (placed 0x0100#16 [0x00#8]
    { State.reset with ime := true, ieReg := 0x10#5, ifReg := 0x10#5, sp := 0xD000#16 })
  (fun t => t.f.toByte == 0x00#8 && t.sp == 0xCFFE#16 && t.pc == 0x0060#16 &&
    t.peek 0xCFFE#16 == 0x01#8 && t.peek 0xCFFF#16 == 0x01#8 && t.ifReg == 0x00#5 &&
    t.ime == false && t.cycles == 24) = true := by decide

theorem test_vector_I6_R223 : gives (placed 0x0100#16 [0xC3#8, 0x00#8, 0x30#8]
    { State.reset with ime := true, ieReg := 0x04#5, ifReg := 0x04#5, sp := 0xFFFE#16 })
  (fun t => t.f.toByte == 0x00#8 && t.sp == 0xFFFC#16 && t.pc == 0x0050#16 &&
    t.peek 0xFFFC#16 == 0x00#8 && t.peek 0xFFFD#16 == 0x30#8 && t.ifReg == 0x00#5 &&
    t.ime == false && t.cycles == 36) = true := by decide

theorem test_vector_I8_R227 : gives (placed 0xC000#16 [0x00#8]
    { State.reset with ime := true, ieReg := 0x01#5, ifReg := 0x01#5, sp := 0x0000#16 })
  (fun t => t.f.toByte == 0x00#8 && t.sp == 0xFFFE#16 && t.pc == 0x0040#16 &&
    t.peek 0xFFFE#16 == 0x01#8 && t.ieReg == 0x00#5 && t.ifReg == 0x00#5 && t.ime == false &&
    t.cycles == 24) = true := by decide

theorem test_vector_I11_R226 : gives (placed 0x0200#16 [0xFB#8, 0x00#8]
    { State.reset with ime := true, ieReg := 0x03#5, ifReg := 0x01#5, sp := 0xFFFE#16 })
  (fun t => t.f.toByte == 0x00#8 && t.sp == 0xFFFC#16 && t.pc == 0x0040#16 &&
    t.peek 0xFFFC#16 == 0x01#8 && t.peek 0xFFFD#16 == 0x02#8 && t.ifReg == 0x00#5 &&
    t.ime == false && t.cycles == 24) = true := by decide

theorem test_vector_M1_R47 : gives (placed 0xC000#16 [0xF1#8]
    { State.reset with sp := 0xFFFE#16, mem := Memory.ofCells [(0xFFFE#16, 0x34#8)] })
  (fun t => t.rA == 0xE0#8 && t.f.toByte == 0x30#8 && t.sp == 0x0000#16 && t.pc == 0xC001#16 &&
    t.ime == false && t.cycles == 12) = true := by decide

/-! ## Faults, refusals, reset -/

/-- The step faults with a reason that passes the check. -/
def faultsAs (s : State) (p : Fault → Bool) : Bool :=
  match step s with
  | .next _ => false
  | .fault r => p r
  | .refused _ => false

/-- The device of the vectors Z5 and Z6: it passes the reads of 0x4000 and aborts the writes. -/
def withE (s : State) : State :=
  { s with
    registry := controllerRegistrations ++
      [{ handle := 2, first := 0x4000#16, last := 0x4000#16, handler := .fixed .passthrough .abort }]
    nextHandle := 3 }

theorem test_vector_X2 : faultsAs (placed 0x0200#16 [0xFD#8] { State.reset with ime := true, ieReg := 1#5, ifReg := 1#5 })
    (fun r => r.code == some 1 && match r with
      | .decodeFailure p x b t => p == 0x0200#16 && !x && b == 0xFD#8 && t.pc == 0x0200#16 && t.ifReg == 1#5 && t.faulted
      | .illegalBusAccess _ _ _ _ _ => false
      | .stuckAfterFault _ => false) = true := by decide

theorem test_vector_Z5 : faultsAs
    (placed 0x0100#16 [0xC5#8] (withE { State.reset with sp := 0x4002#16, rB := 0x12#8, rC := 0x34#8 }))
    (fun r => match r with
      | .decodeFailure _ _ _ _ => false
      | .illegalBusAccess a k v h t => a == 0x4000#16 && decide (k = .write) && v == some 0x34#8 && h == 2 &&
          t.sp == 0x4000#16 && t.peek 0x4001#16 == 0x12#8 && t.peek 0x4000#16 == 0x00#8 && t.pc == 0x0101#16 && t.faulted
      | .stuckAfterFault _ => false) = true := by decide

theorem test_vector_Z6 : faultsAs
    (placed 0x0100#16 [0x34#8]
      (withE { State.reset with rH := 0x40#8, f := Flags.ofByte 0x10#8, mem := [(0x4000, 0x0F#8)] }))
    (fun r => match r with
      | .decodeFailure _ _ _ _ => false
      | .illegalBusAccess a k v h t => a == 0x4000#16 && decide (k = .write) && v == some 0x10#8 && h == 2 &&
          t.f.toByte == 0x10#8 && t.peek 0x4000#16 == 0x0F#8 && t.pc == 0x0101#16 && t.faulted
      | .stuckAfterFault _ => false) = true := by decide

/-- The start of the vector Z3. -/
def stopRefused : State :=
  placed 0x0300#16 [0x10#8, 0x00#8]
    { State.reset with
      ime := true, ieReg := 1#5, ifReg := 1#5, sp := 0xC000#16
      config := { Config.default with stopMode := .refuse } }

theorem test_vector_Z3 : step stopRefused =
    .refused (.stop 0x0300#16 { stopRefused with pc := 0x0302#16, faulted := true }) := by rfl

theorem test_vector_Z2 : (loadPostBoot State.reset).af = 0x01B0#16 ∧ (loadPostBoot State.reset).hl = 0x014D#16 ∧
    (loadPostBoot State.reset).sp = 0xFFFE#16 ∧ (loadPostBoot State.reset).pc = 0x0100#16 := by decide

/-- 45_system.md R199: the empty memory runs as NOPs. -/
theorem test_reset_runs_nop : gives State.reset (fun t => t.pc == 0x0001#16 && t.cycles == 4) = true := by decide

theorem test_reset_memory : Memory.wf State.reset.mem = true := by decide

/-! ## The hypotheses of every statement can be met: one witness a statement, one case a clause -/

theorem witness_DecodeEncodeRoundTrip : (Instr.ld_a_mA16 0xFFFF#16).wellFormed = true ∧ Instr.bit_7_mHL.wellFormed = true ∧
    (Instr.jr_e8 0x80#8).wellFormed = true := by decide

theorem witness_EncodeDecodeRoundTrip : decode [0xFA#8, 0x00#8, 0xC0#8, 0x99#8] = .ok (.ld_a_mA16 0xC000#16, [0x99#8]) ∧
    decode [0xCB#8, 0xFF#8] = .ok (.set_7_a, []) := ⟨rfl, rfl⟩

theorem witness_UndefinedBytesFault :
    let s := placed 0xFFFF#16 [] { State.reset with ieReg := 0x14#5 }
    let u := placed 0x0200#16 [0xD3#8] State.reset
    s.faulted = false ∧ s.mode = .running ∧ s.imeScheduled = false ∧ read8 s.pc s = .next (0xF4#8, s) ∧
      0xF4#8 ∈ undefinedBytes ∧
      u.faulted = false ∧ u.mode = .running ∧ u.imeScheduled = false ∧ read8 u.pc u = .next (0xD3#8, u) ∧
      0xD3#8 ∈ undefinedBytes :=
  ⟨rfl, rfl, rfl, rfl, by decide, rfl, rfl, rfl, rfl, by decide⟩

theorem witness_PostBootValues : State.reset.config.postBoot = .dmg ∧
    ({ State.reset with config := { Config.default with postBoot := .cgb } } : State).config.postBoot = .cgb := by decide

/-- A construction with one device over `first` to `last`. -/
def oneDevice (first last : Word) (doubleSpeed : Bool) : Options :=
  { Options.default with
    doubleSpeed := doubleSpeed, devices := [{ device := { kind := .timer, st := [] }, regions := [(first, last)] }] }

/-- R240, 20_memory.md R44: the device's region follows the controller's two, with the next handle. -/
theorem test_construction_registers_the_device : (match construct (oneDevice 0xFF04#16 0xFF07#16 false) with
    | .ok s => decide (s.registry = controllerRegistrations ++
        [{ handle := 2, first := 0xFF04#16, last := 0xFF07#16, handler := .device 0 }])
    | .error _ => false) = true := by decide

theorem witness_ConstructionOrRefusal : (∃ s, construct (oneDevice 0xFF04#16 0xFF04#16 false) = .ok s) ∧
    (∃ e, construct (oneDevice 0xFF05#16 0xFF04#16 false) = .error e) ∧
    ∃ e, construct (oneDevice 0xFF04#16 0xFF07#16 true) = .error e := ⟨⟨_, rfl⟩, ⟨_, rfl⟩, ⟨_, rfl⟩⟩

theorem witness_Inv : State.reset.Inv := ⟨rfl, rfl, rfl, fun _ => rfl, fun _ => rfl, rfl⟩

theorem witness_ResetSatisfiesInvariant : State.reset.Inv := witness_Inv

theorem witness_halted_Inv : ({ State.reset with mode := .halted } : State).Inv :=
  ⟨rfl, rfl, rfl, fun _ => rfl, fun _ => rfl, rfl⟩

/-- The registration that `fenced` puts after the controller's. -/
def fence (r : ReadOutcome) (w : WriteOutcome) : Registration :=
  { handle := 2, first := 0x0000#16, last := 0xFFFF#16, handler := .fixed r w }

/-- A handler over the whole space, after the controller, that answers `r` and `w` (95_test_vectors.md Z5). -/
def fenced (r : ReadOutcome) (w : WriteOutcome) : State :=
  { State.reset with
    registry := controllerRegistrations ++ [fence r w], nextHandle := 3, rC := 0x80#8, rH := 0xC0#8, sp := 0xC000#16 }

theorem readPasses_controller (s : State) : ReadPasses 0x0000#16 controllerRegistrations s s :=
  .outside (by decide) (.outside (by decide) (.done s))

theorem writePasses_controller (v : Byte) (s : State) : WritePasses 0x0000#16 v controllerRegistrations s s :=
  .outside (by decide) (.outside (by decide) (.done s))

theorem witness_ReadTakesFirstAnswer :
    ReadPasses 0x0000#16 (fenced .passthrough .abort).registry (fenced .passthrough .abort) (fenced .passthrough .abort) ∧
    (∀ r w, (fenced r w).registry = controllerRegistrations ++ fence r w :: [] ∧
      ReadPasses 0x0000#16 controllerRegistrations (fenced r w) (fenced r w) ∧ (fence r w).covers 0x0000#16 = true ∧
      (fence r w).handler.onRead 0x0000#16 (fenced r w) = (r, fenced r w)) :=
  ⟨.outside (by decide) (.outside (by decide) (.pass (by decide) rfl (.done _))),
    fun _ _ => ⟨rfl, readPasses_controller _, rfl, rfl⟩⟩

theorem witness_WriteTakesFirstAnswer :
    WritePasses 0x0000#16 0x55#8 (fenced .abort .passthrough).registry (fenced .abort .passthrough)
      (fenced .abort .passthrough) ∧
    (∀ r w, (fenced r w).registry = controllerRegistrations ++ fence r w :: [] ∧
      WritePasses 0x0000#16 0x55#8 controllerRegistrations (fenced r w) (fenced r w) ∧
      (fence r w).covers 0x0000#16 = true ∧ (fence r w).handler.onWrite 0x0000#16 0x55#8 (fenced r w) = (w, fenced r w)) :=
  ⟨.outside (by decide) (.outside (by decide) (.pass (by decide) rfl (.done _))),
    fun _ _ => ⟨rfl, writePasses_controller _ _, rfl, rfl⟩⟩

theorem witness_ControllerRegistersOnBus : State.reset.controllerFirst = true ∧
    (fenced .abort .abort).controllerFirst = true := by decide

/-- The operation answers a next state. -/
def answers {α : Type} (o : Host.Outcome α Fault Refusal) : Bool :=
  match o with
  | .next _ => true
  | .fault _ => false
  | .refused _ => false

/-- The operation faults. -/
def faults {α : Type} (o : Host.Outcome α Fault Refusal) : Bool :=
  match o with
  | .next _ => false
  | .fault _ => true
  | .refused _ => false

theorem witness_BusAccessFrame : answers (read8 0xFFFF#16 State.reset) = true ∧
    answers (write8 0x0000#16 0x01#8 State.reset) = true ∧ faults (read8 0xFF0E#16 (fenced .abort .block)) = true ∧
    faults (write8 0xFFFE#16 0x01#8 (fenced .passthrough .abort)) = true := by decide

theorem witness_BusAccessFrame_abort :
    let s := fenced .abort .abort
    let r := fence .abort .abort
    s.registry = controllerRegistrations ++ r :: [] ∧ r.covers 0x0000#16 = true ∧
      ReadPasses 0x0000#16 controllerRegistrations s s ∧ r.handler.onRead 0x0000#16 s = (.abort, s) ∧
      WritePasses 0x0000#16 0x55#8 controllerRegistrations s s ∧ r.handler.onWrite 0x0000#16 0x55#8 s = (.abort, s) :=
  ⟨rfl, rfl, readPasses_controller _, rfl, writePasses_controller _ _, rfl⟩

theorem witness_PlainMemoryRoundTrip : State.reset.plainAt 0xFF0E#16 = true ∧ Memory.wf State.reset.mem = true ∧
    State.reset.plainAt 0xFFFE#16 = true ∧ State.reset.plainAt 0xFF0D#16 = true ∧
    (fenced .passthrough .passthrough).plainAt 0x0000#16 = true ∧
    (fenced .passthrough .passthrough).plainAt 0x0001#16 = true := by decide

theorem witness_HandlersAddedAndRemoved : (0xFFFF#16 : Word).toNat ≤ (0xFFFF#16 : Word).toNat ∧
    (0x0000#16 : Word).toNat < (0x0001#16 : Word).toNat ∧ (∀ r ∈ State.reset.registry, r.handle ≠ 2) ∧
    State.reset.registryWf = true := by decide

theorem witness_StackOrder :
    answers (push16 0x1234#16 State.reset) = true ∧ answers (pop16 State.reset) = true ∧
    faults (write8 0xBFFF#16 0x12#8 { fenced .passthrough .abort with sp := 0xBFFF#16 }) = true ∧
    answers (write8 0xFFFF#16 0x12#8 { fenced .passthrough .abort with sp := 0xFFFF#16 }) = true ∧
    faults (push16 0x1234#16 { fenced .passthrough .abort with sp := 0x0000#16 }) = true ∧
    faults (read8 0xC000#16 (fenced .abort .block)) = true ∧
    answers (read8 0xFFFF#16 { fenced .abort .block with sp := 0xFFFF#16 }) = true ∧
    faults (read8 0x0000#16 { fenced .abort .block with sp := 0x0000#16 }) = true := by decide

theorem witness_PopUndoesPush : Memory.wf State.reset.mem = true ∧ State.reset.plainAt (0x0002#16 - 1#16) = true ∧
    State.reset.plainAt (0x0002#16 - 2#16) = true ∧ State.reset.plainAt (0xFFFF#16 - 1#16) = true ∧
    State.reset.plainAt (0xFFFF#16 - 2#16) = true := by decide

/-- Running with IME set and the sets `ie` and `irq`. -/
def asking (ime : Bool) (ie irq : BitVec 5) : State := { State.reset with ime := ime, ieReg := ie, ifReg := irq, sp := 0xFFFE#16 }

theorem witness_HighestPriorityLine : (asking true 0x1E#5 0x1F#5).nextRequest = some .lcdStat ∧
    (asking true 0x10#5 0x1F#5).nextRequest = some .joypad ∧ (asking true 0x10#5 0x0F#5).nextRequest = none := by decide

theorem witness_ConsumeAndRequestOneLine : State.reset.nextRequest = none ∧
    (asking false 0x1F#5 0x1F#5).nextRequest = some .vblank := by decide

theorem wakes_enabled : ({ asking false 0x04#5 0x04#5 with mode := .halted } : State).wakeHolds :=
  .inl ⟨rfl, by decide⟩

theorem wakes_any :
    ({ asking false 0x00#5 0x04#5 with
      mode := .halted, config := { Config.default with haltWake := .anyRequested } } : State).wakeHolds :=
  .inr ⟨rfl, by decide⟩

theorem sleeps : ¬ ({ asking true 0x00#5 0x04#5 with mode := .halted } : State).wakeHolds := by
  rintro (⟨-, h⟩ | ⟨h, -⟩)
  · exact h (by decide)
  · cases h

theorem witness_PollAndService :
    ({ asking false 0x04#5 0x04#5 with mode := .halted } : State).wakeHolds ∧
    ¬ ({ asking true 0x00#5 0x04#5 with mode := .halted } : State).wakeHolds ∧
    (asking false 0x04#5 0x04#5).ime = false ∧ (asking true 0x00#5 0x04#5).nextRequest = none ∧
    (asking true 0x04#5 0x04#5).ime = true ∧ (asking true 0x04#5 0x04#5).nextRequest = some .timer ∧
    answers (pollInterrupts (asking true 0x04#5 0x04#5)) = true ∧
    faults (pollInterrupts { fenced .passthrough .abort with ime := true, ieReg := 0x01#5, ifReg := 0x01#5 }) = true :=
  ⟨wakes_enabled, sleeps, by decide, by decide, by decide, by decide, by decide, by decide⟩

theorem witness_ServiceOnPlainStack : (asking true 0x05#5 0x04#5).ime = true ∧
    (asking true 0x05#5 0x04#5).nextRequest = some .timer ∧ Memory.wf (asking true 0x05#5 0x04#5).mem = true ∧
    (asking true 0x05#5 0x04#5).plainAt ((asking true 0x05#5 0x04#5).sp - 1#16) = true ∧
    (asking true 0x05#5 0x04#5).plainAt ((asking true 0x05#5 0x04#5).sp - 2#16) = true := by decide

theorem witness_PhasesOfAStep : ({ State.reset with mode := .halted } : State).mode = .halted ∧
    State.reset.mode = .running ∧ ({ State.reset with imeScheduled := true } : State).imeScheduled = true ∧
    State.reset.imeScheduled = false ∧ State.reset.faulted = false := by decide

theorem witness_QuiescentHalt :
    ({ State.reset with mode := .halted } : State).Inv ∧ ({ State.reset with mode := .halted } : State).quiescent ∧
    ({ asking true 0x04#5 0x04#5 with mode := .halted } : State).Inv ∧
    ({ asking true 0x04#5 0x04#5 with mode := .halted } : State).ieReg &&&
      ({ asking true 0x04#5 0x04#5 with mode := .halted } : State).ifReg ≠ 0#5 ∧
    answers (step { asking true 0x04#5 0x04#5 with mode := .halted }) = true :=
  ⟨witness_halted_Inv, ⟨rfl, rfl, rfl, rfl⟩, ⟨rfl, rfl, rfl, fun _ => rfl, fun _ => rfl, rfl⟩, by decide, by decide⟩

theorem witness_EiDelay :
    let s := placed 0x0100#16 [0xFB#8, 0x00#8] (asking false 0x01#5 0x01#5)
    let u := placed 0xFFFD#16 [0xFB#8, 0xF3#8] (asking false 0x01#5 0x01#5)
    (s.faulted = false ∧ s.mode = .running ∧ s.imeScheduled = false ∧ s.ime = false ∧ s.devices = [] ∧
      s.config.eiDelayed = true ∧ s.plainAt s.pc = true ∧ s.plainAt (s.pc + 1#16) = true ∧ s.peek s.pc = 0xFB#8 ∧
      s.peek (s.pc + 1#16) = 0x00#8 ∧ s.nextRequest = some .vblank ∧ Memory.wf s.mem = true ∧
      s.plainAt (s.sp - 1#16) = true ∧ s.plainAt (s.sp - 2#16) = true) ∧
    u.plainAt u.pc = true ∧ u.plainAt (u.pc + 1#16) = true ∧ u.peek u.pc = 0xFB#8 ∧ u.peek (u.pc + 1#16) = 0xF3#8 := by
  decide

theorem witness_StepRunsDecodedInstruction :
    let s := placed 0xFFFE#16 [0xFA#8] { State.reset with ieReg := 0x05#5, mem := [(0, 0xC0#8)] }
    s.faulted = false ∧ s.mode = .running ∧ readBytes 3 s.pc s.promoteEI = .next ([0xFA#8, 0xE5#8, 0xC0#8], s) ∧
      decode [0xFA#8, 0xE5#8, 0xC0#8] = .ok (.ld_a_mA16 0xC0E5#16, []) := ⟨rfl, rfl, rfl, rfl⟩

theorem witness_StepRunsStoredInstruction :
    let s := placed 0xFFFE#16 [0x3C#8] State.reset
    let u := placed 0xC000#16 [0xC3#8, 0x34#8, 0x12#8] State.reset
    (s.faulted = false ∧ s.mode = .running ∧ Instr.inc_a.wellFormed = true ∧ s.plainAt s.pc = true ∧
      encode .inc_a = [s.peek s.pc]) ∧
    (Instr.jp_a16 0x1234#16).wellFormed = true ∧ u.plainAt u.pc = true ∧ u.plainAt (u.pc + 1#16) = true ∧
      u.plainAt (u.pc + 2#16) = true ∧
      encode (.jp_a16 0x1234#16) = [u.peek u.pc, u.peek (u.pc + 1#16), u.peek (u.pc + 2#16)] := by decide

/-- At 0xFFFF the opcode is IE's byte, and the bytes after it are behind the fence. -/
def fencedFetch : State := { fenced .abort .block with ieReg := 0x06#5, pc := 0xFFFF#16 }

theorem witness_FaultEndsStep : faults (read8 0xC000#16 { fenced .abort .block with pc := 0xC000#16 }) = true ∧
    (read8 0xFFFF#16 fencedFetch = .next (0xE6#8, fencedFetch) ∧ lengthFromByte 0xE6#8 = some 2 ∧
      faults (readBytes 1 (0xFFFF#16 + 1#16) fencedFetch) = true) ∧
    (let s := placed 0x0200#16 [0xD3#8] { State.reset with imeScheduled := true }
     read8 s.pc s.promoteEI = .next (0xD3#8, s.promoteEI) ∧ 0xD3#8 ∈ undefinedBytes) ∧
    (let s := placed 0xC000#16 [0x77#8] (fenced .passthrough .abort)
     fetch s.promoteEI = .next (.ld_mHL_a, { s with pc := 0xC001#16 }) ∧
      faults (exec .ld_mHL_a { s with pc := 0xC001#16 }) = true) ∧
    (let s := placed 0x0300#16 [0x10#8, 0x00#8]
       { State.reset with config := { Config.default with stopMode := .refuse } }
     fetch s.promoteEI = .next (.stop_n8 0x00#8, { s with pc := 0x0302#16 }) ∧
      ∃ r, exec (.stop_n8 0x00#8) { s with pc := 0x0302#16 } = .refused r) :=
  ⟨by decide, ⟨rfl, rfl, by decide⟩, ⟨rfl, by decide⟩, ⟨rfl, by decide⟩, rfl, ⟨_, rfl⟩⟩

/-- 60_exceptions.md R238, 10_state.md R33: after a fault the post-boot load is no move of the host; `Reset()` is. -/
theorem test_host_after_fault :
    hostMove .loadPostBoot { State.reset with faulted := true } = .error .afterFault ∧
    hostMove .reset { State.reset with faulted := true } = .ok (.nothing, State.reset) := ⟨rfl, rfl⟩

theorem witness_FaultsAreFinal_hostMove :
    (∃ answer t, hostMove (.attach 0x4000#16 0x4000#16 (.fixed .passthrough .abort)) State.reset = .ok (answer, t)) ∧
    (∃ answer t, hostMove (.detach 1) State.reset = .ok (answer, t)) ∧
    (∃ answer t, hostMove (.request .joypad) State.reset = .ok (answer, t)) ∧
    ∃ answer t, hostMove .stop State.reset = .ok (answer, t) :=
  ⟨⟨_, _, rfl⟩, ⟨_, _, rfl⟩, ⟨_, _, rfl⟩, ⟨_, _, rfl⟩⟩

theorem witness_FaultsAreFinal : ({ State.reset with faulted := true } : State).faulted = true ∧
    (placed 0x0200#16 [0xD3#8] State.reset).faulted = false ∧
    faults (step (placed 0x0200#16 [0xD3#8] State.reset)) = true ∧
    ∃ t, step (placed 0x0300#16 [0x10#8, 0x00#8]
      { State.reset with config := { Config.default with stopMode := .refuse } }) = .refused (.stop 0x0300#16 t) :=
  ⟨rfl, rfl, by decide, ⟨_, rfl⟩⟩

theorem witness_StepCompletesOrDecodeFails : State.reset.faulted = false ∧ State.reset.busIsSafe = true ∧
    State.reset.devices = [] ∧ State.reset.config.stopMode = .nop ∧ answers (step State.reset) = true ∧
    faults (step (placed 0x0200#16 [0xFD#8] State.reset)) = true := by decide

theorem witness_StepKeepsInvariant : State.reset.Inv ∧ ∃ t, step State.reset = .next t := ⟨witness_Inv, ⟨_, rfl⟩⟩

theorem witness_StepKeepsSetup : ∃ t, step (placed 0x0100#16 [0x76#8] State.reset) = .next t := ⟨_, rfl⟩

theorem witness_ControllerBytesNeverWritten : State.reset.Inv ∧
    answers (step (placed 0x0100#16 [0x36#8, 0xFF#8] { State.reset with rH := 0xFF#8, rL := 0x0F#8 })) = true :=
  ⟨witness_Inv, by decide⟩

theorem witness_PeripheralOrder : State.reset.devices = [] ∧
    ({ State.reset with devices := [⟨.serial, []⟩] } : State).devices[0]? = some ⟨.serial, []⟩ ∧
    ({ State.reset with devices := [⟨.serial, []⟩, ⟨.joypad, []⟩, ⟨.dma, []⟩] } : State).stepOrder = [2, 0] := by decide

theorem witness_EveryInstructionCompletes : State.reset.busIsSafe = true ∧ State.reset.config.stopMode = .nop := by decide

theorem witness_RomAnnotationsHold : ∃ t, exec .daa State.reset = .next t := ⟨_, rfl⟩

theorem witness_OnlyControlWritesEngineState : (∃ t, exec .daa State.reset = .next t) ∧ Instr.daa.transfers = false ∧
    Instr.daa.controlsInterrupts = false ∧ Instr.daa ≠ .halt := ⟨⟨_, rfl⟩, by decide⟩

theorem witness_StoresOnlyWhereComputed : (∃ t, exec .ld_mHL_a (fenced .passthrough .passthrough) = .next t) ∧
    0xFFFF#16 ∉ Instr.ld_mHL_a.storeAddresses (fenced .passthrough .passthrough) ∧
    0xFF0F#16 ∉ Instr.ld_mHL_a.storeAddresses (fenced .passthrough .passthrough) := ⟨⟨_, rfl⟩, by decide⟩

theorem witness_InstructionFaultEffects : faults (exec .ld_a_mHL (fenced .abort .block)) = true ∧
    Instr.ld_a_mHL.usesStack = false ∧ faults (exec .push_bc (fenced .passthrough .abort)) = true ∧
    Instr.push_bc.usesStack = true := by decide

theorem witness_LoadByte :
    (answers (read8 State.reset.hl State.reset) = true ∧ answers (read8 State.reset.bc State.reset) = true ∧
      answers (read8 State.reset.de State.reset) = true ∧ answers (read8 0xFFFF#16 State.reset) = true ∧
      answers (read8 (0xFF#8 ++ 0x0F#8) State.reset) = true ∧
      answers (read8 (0xFF#8 ++ State.reset.rC) State.reset) = true) ∧
    let s := fenced .abort .block
    faults (read8 s.hl s) = true ∧ faults (read8 s.bc s) = true ∧ faults (read8 s.de s) = true ∧
      faults (read8 0xFFFE#16 s) = true ∧ faults (read8 (0xFF#8 ++ 0x0E#8) s) = true ∧
      faults (read8 (0xFF#8 ++ s.rC) s) = true := by decide

theorem witness_StoreByte :
    (answers (write8 State.reset.hl State.reset.rB State.reset) = true ∧
      answers (write8 State.reset.hl 0x99#8 State.reset) = true ∧
      answers (write8 State.reset.bc State.reset.rA State.reset) = true ∧
      answers (write8 State.reset.de State.reset.rA State.reset) = true ∧
      answers (write8 0xFFFF#16 State.reset.rA State.reset) = true ∧
      answers (write8 (0xFF#8 ++ 0x0F#8) State.reset.rA State.reset) = true ∧
      answers (write8 (0xFF#8 ++ State.reset.rC) State.reset.rA State.reset) = true) ∧
    let s := fenced .passthrough .abort
    faults (write8 s.hl s.rB s) = true ∧ faults (write8 s.hl 0x99#8 s) = true ∧ faults (write8 s.bc s.rA s) = true ∧
      faults (write8 s.de s.rA s) = true ∧ faults (write8 0xFFFE#16 s.rA s) = true ∧
      faults (write8 (0xFF#8 ++ 0x0E#8) s.rA s) = true ∧ faults (write8 (0xFF#8 ++ s.rC) s.rA s) = true := by decide

theorem witness_LoadStoreMoveHL : answers (read8 State.reset.hl State.reset) = true ∧
    answers (write8 State.reset.hl State.reset.rA State.reset) = true ∧
    faults (read8 (fenced .abort .abort).hl (fenced .abort .abort)) = true ∧
    faults (write8 (fenced .abort .abort).hl (fenced .abort .abort).rA (fenced .abort .abort)) = true := by decide

theorem witness_LoadWord :
    answers (write8 0xFFFF#16 0x34#8 State.reset) = true ∧ answers (write16 0xFFFF#16 0x1234#16 State.reset) = true ∧
    (let s := fenced .passthrough .abort
     faults (write8 0xC000#16 (s.sp.extractLsb' 0 8) s) = true ∧
      answers (write8 0xFFFF#16 (s.sp.extractLsb' 0 8) s) = true ∧ faults (write16 0xFFFF#16 s.sp s) = true) := by decide

theorem witness_PushAndPop : answers (push16 State.reset.af State.reset) = true ∧ answers (pop16 State.reset) = true ∧
    faults (push16 (fenced .abort .abort).af (fenced .abort .abort)) = true ∧
    faults (pop16 (fenced .abort .abort)) = true := by decide

theorem witness_AddAndSubtract : answers (read8 State.reset.hl State.reset) = true ∧
    faults (read8 (fenced .abort .abort).hl (fenced .abort .abort)) = true := by decide

theorem witness_LogicAndCompare : answers (read8 State.reset.hl State.reset) = true ∧
    faults (read8 (fenced .abort .abort).hl (fenced .abort .abort)) = true := by decide

/-- The cases of a read and a write of the byte at HL: both answer, the read faults, the write faults. -/
theorem modify_cases (v : Byte) : answers (read8 State.reset.hl State.reset) = true ∧
    answers (write8 State.reset.hl v State.reset) = true ∧
    faults (read8 (fenced .abort .abort).hl (fenced .abort .abort)) = true ∧
    answers (read8 (fenced .passthrough .abort).hl (fenced .passthrough .abort)) = true ∧
    faults (write8 (fenced .passthrough .abort).hl v (fenced .passthrough .abort)) = true :=
  ⟨rfl, rfl, rfl, rfl, rfl⟩

theorem witness_IncrementAndDecrement : faults (exec .inc_mHL (fenced .passthrough .abort)) = true ∧
    faults (exec .dec_mHL (fenced .abort .abort)) = true ∧ answers (exec .inc_mHL State.reset) = true := by decide

theorem witness_AccumulatorAdjustments : State.reset.f.n = false ∧
    ({ State.reset with f := Flags.mk false true true true } : State).f.n = true := by decide

theorem witness_PrefixedRotatesOfMemory : faults (exec .rlc_mHL (fenced .passthrough .abort)) = true ∧
    faults (exec .srl_mHL (fenced .abort .abort)) = true ∧ answers (exec .swap_mHL State.reset) = true := by decide

theorem witness_BitInstructions : faults (exec .set_7_mHL (fenced .passthrough .abort)) = true ∧
    faults (exec .bit_0_mHL (fenced .abort .abort)) = true ∧ faults (exec .res_3_mHL (fenced .abort .abort)) = true ∧
    answers (exec .res_3_mHL State.reset) = true ∧ answers (exec .bit_0_mHL State.reset) = true := by decide

theorem witness_CallsAndRestarts : answers (push16 State.reset.pc State.reset) = true ∧
    faults (push16 (fenced .abort .abort).pc (fenced .abort .abort)) = true ∧
    Cond.nz.holds State.reset.f = true ∧ Cond.z.holds State.reset.f = false := by decide

theorem witness_Returns : answers (pop16 State.reset) = true ∧ faults (pop16 (fenced .abort .abort)) = true ∧
    Cond.nc.holds State.reset.f = true ∧ Cond.c.holds State.reset.f = false := by decide

theorem witness_SystemInstructions : State.reset.config.eiDelayed = true ∧
    ({ Config.default with eiDelayed := false } : Config).eiDelayed = false ∧ State.reset.config.stopMode = .nop ∧
    ({ Config.default with stopMode := .refuse } : Config).stopMode = .refuse := by decide
end

section
/-! The compound views and the flags register (10_state.md R16-R18). -/

namespace Sys2Proof.Machine

/-- A pair of bytes as a word is the high one shifted, or the low one (10_state.md R16). -/
theorem joinBytes_eq_shiftLeft_or (h l : Byte) : joinBytes h l = (h.setWidth 16 <<< 8 ||| l.setWidth 16) := by
  apply BitVec.eq_of_getLsbD_eq
  intro i hi
  simp only [joinBytes, BitVec.getLsbD_append, BitVec.getLsbD_or, BitVec.getLsbD_shiftLeft, BitVec.getLsbD_setWidth]
  by_cases low : i < 8
  · simp [low, hi]
  · simp [low, hi, show i - 8 < 16 by omega, BitVec.getLsbD_of_ge l i (by omega)]

/-- What F reads as after a write of a byte: its bits 7-4 (10_state.md R17, R18). -/
theorem Flags.toByte_ofByte : ∀ v : Byte, (Flags.ofByte v).toByte = v &&& 0xF0#8 := by decide

/-- Each flag is its bit of F, and bits 3-0 read as zero (10_state.md R18). -/
theorem Flags.toByte_bits (g : Flags) :
    g.toByte.getLsbD 7 = g.z ∧ g.toByte.getLsbD 6 = g.n ∧ g.toByte.getLsbD 5 = g.h ∧ g.toByte.getLsbD 4 = g.c ∧
      g.toByte &&& 0x0F#8 = 0x00#8 := by
  obtain ⟨z, n, h, c⟩ := g
  cases z <;> cases n <;> cases h <;> cases c <;> decide

end Sys2Proof.Machine

open Sys2Proof Sys2Proof.Machine

/-- Settles O7: each view is `joinBytes` of its halves, and a write of F keeps the four flags of the byte. -/
theorem compoundViewsAndFlags : Obligations.CompoundViewsAndFlags := by
  refine ⟨fun s => ?_, fun s v => ?_, fun g => ?_⟩
  · exact ⟨joinBytes_eq_shiftLeft_or _ _, joinBytes_eq_shiftLeft_or _ _, joinBytes_eq_shiftLeft_or _ _,
      joinBytes_eq_shiftLeft_or _ _⟩
  · exact ⟨rfl, rfl, rfl, rfl, Flags.toByte_ofByte _, rfl⟩
  · obtain ⟨hz, hn, hh, hc, hlow⟩ := g.toByte_bits
    exact ⟨hz, hn, hh, hc, hlow, Flags.ofByte_toByte g⟩
end

section
/-! What each shared operation of the instructions can end in: the engine state, the flags and the cost it leaves, or a bus
fault. -/

namespace Sys2Proof

/-- The annotation `----` (10_state.md R20). -/
def FlagNote.kept : FlagNote := ⟨.keep, .keep, .keep, .keep⟩

namespace Machine

/-! ## The engine state -/

/-- The parts of the state that only control instructions write, or none (10_state.md R24-R27, R33; 20_memory.md R43). -/
structure Engine where
  pc : Word
  ime : Bool
  imeScheduled : Bool
  mode : Mode
  registry : List Registration
  nextHandle : Nat
  config : Config
  faulted : Bool

/-- The engine part of a state. -/
def State.engine (s : State) : Engine where
  pc := s.pc
  ime := s.ime
  imeScheduled := s.imeScheduled
  mode := s.mode
  registry := s.registry
  nextHandle := s.nextHandle
  config := s.config
  faulted := s.faulted

@[simp] theorem State.setR_engine (s : State) (r : Reg8) (v : Byte) : (s.setR r v).engine = s.engine := by
  simp [State.engine]
@[simp] theorem State.setF_engine (s : State) (g : Flags) : (s.setF g).engine = s.engine := rfl
@[simp] theorem State.charge_engine (s : State) (n : Nat) : (s.charge n).engine = s.engine := rfl
@[simp] theorem State.setHL_engine (s : State) (v : Word) : (s.setHL v).engine = s.engine := rfl
@[simp] theorem State.moveHL_engine (s : State) (k : Word) : (s.moveHL k).engine = s.engine := rfl
@[simp] theorem State.moveSp_engine (s : State) (k : Word) : (s.moveSp k).engine = s.engine := rfl
@[simp] theorem State.applyAlu_engine (s : State) (op : Alu) (v : Byte) : (s.applyAlu op v).engine = s.engine := rfl
@[simp] theorem State.setPair_engine (s : State) (p : Pair) (v : Word) : (s.setPair p v).engine = s.engine := by
  simp [State.engine]
@[simp] theorem State.setStackPair_engine (s : State) (p : StackPair) (v : Word) :
    (s.setStackPair p v).engine = s.engine := by
  simp [State.engine]

/-- The engine state and the flags are those of `s`: what the bus accesses of an instruction leave alone. -/
def State.Quiet (s t : State) : Prop := t.engine = s.engine ∧ t.f = s.f

theorem State.Accessed.quiet {s t : State} (h : s.Accessed t) : s.Quiet t := by
  obtain ⟨-, hf, -, -, -, -, -, -, -, hpc, hime, hsched, hmode, hfault⟩ := h.cpu
  obtain ⟨hreg, hnext, hconf⟩ := h.kept.setup
  exact ⟨by simp [State.engine, *], hf⟩

theorem State.Quiet.refl (s : State) : s.Quiet s := ⟨rfl, rfl⟩

theorem State.Quiet.trans {s t u : State} (h : s.Quiet t) (k : t.Quiet u) : s.Quiet u :=
  ⟨k.1.trans h.1, k.2.trans h.2⟩

theorem State.Quiet.setPc {s t : State} (h : s.Quiet t) (v : Word) : (s.setPc v).Quiet (t.setPc v) :=
  ⟨congrArg (fun e : Engine => { e with pc := v }) h.1, h.2⟩

theorem State.Quiet.enableInterruptsNow {s t : State} (h : s.Quiet t) :
    s.enableInterruptsNow.Quiet t.enableInterruptsNow :=
  ⟨congrArg (fun e : Engine => { e with ime := true, imeScheduled := false }) h.1, h.2⟩

theorem State.quiet_moveSp (s : State) (k : Word) : s.Quiet (s.moveSp k) := ⟨rfl, rfl⟩

/-! ## The bus accesses -/

/-- The fault is a bus fault, recorded in the state it leaves (60_exceptions.md R207, R208). -/
def BusAbort (r : Fault) : Prop :=
  ∃ a kind v handle t, r = .illegalBusAccess a kind v handle (State.markFaulted t)

theorem BusFault.busAbort {s : State} {a : Word} {kind : AccessKind} {v : Option Byte} {r : Fault}
    (h : BusFault s a kind v r) : BusAbort r := by
  obtain ⟨handle, t, rfl, -⟩ := h
  exact ⟨a, kind, v, handle, t, rfl⟩

theorem StackFault.busAbort {s : State} {ks : List Word} {r : Fault} (h : StackFault s ks r) : BusAbort r := by
  obtain ⟨a, kind, v, handle, t, rfl, -⟩ := h
  exact ⟨a, kind, v, handle, t, rfl⟩

theorem read8_quiet (a : Word) (s : State) : Ends (read8 a s) (fun v => s.Quiet v.2) BusAbort never :=
  (read8_ends a s).mono (fun _ h => h.1.quiet) (fun _ h => h.busAbort) fun _ => id

theorem write8_quiet (a : Word) (v : Byte) (s : State) : Ends (write8 a v s) s.Quiet BusAbort never :=
  (write8_ends a v s).mono (fun _ h => h.1.quiet) (fun _ h => h.busAbort) fun _ => id

theorem write16_quiet (a v : Word) (s : State) : Ends (write16 a v s) s.Quiet BusAbort never :=
  (write8_quiet a (loByte v) s).andThen
    (fun s1 h1 => (write8_quiet (a + 1#16) (hiByte v) s1).mono (fun _ h2 => h1.trans h2) (fun _ => id) fun _ => id)
    (fun _ => id) fun _ => id

theorem push16_quiet (v : Word) (s : State) : Ends (push16 v s) s.Quiet BusAbort never :=
  (push16_ends v s).mono (fun _ h => (s.quiet_moveSp _).trans h.1.quiet) (fun _ h => h.busAbort) fun _ => id

theorem pop16_quiet (s : State) : Ends (pop16 s) (fun v => s.Quiet v.2) BusAbort never :=
  (pop16_ends s).mono (fun _ h => (s.quiet_moveSp _).trans h.1.quiet) (fun _ h => h.busAbort) fun _ => id

/-! ## Annotations -/

/-- The annotation of an accumulator operation (41_alu8.md R123-R146). -/
def Alu.note (op : Alu) : FlagNote :=
  match op with
  | .add | .adc => ⟨.comp, .zero, .comp, .comp⟩
  | .sub | .sbc | .cp => ⟨.comp, .one, .comp, .comp⟩
  | .and => ⟨.comp, .zero, .one, .zero⟩
  | .xor | .or => ⟨.comp, .zero, .zero, .zero⟩

/-- The annotation of a prefixed rotate or shift (43_rotate_shift_bit.md section 3). -/
def Rot.note (op : Rot) : FlagNote :=
  match op with
  | .swap => ⟨.comp, .zero, .zero, .zero⟩
  | _ => ⟨.comp, .zero, .zero, .comp⟩

/-- The annotation of a pop: only that of AF writes the flags (40_load.md R119, R120). -/
def StackPair.popNote (p : StackPair) : FlagNote :=
  match p with
  | .af => ⟨.comp, .comp, .comp, .comp⟩
  | _ => .kept

@[simp] theorem effectAllows_keep (b a : Bool) : effectAllows .keep b a ↔ a = b := Iff.rfl
@[simp] theorem effectAllows_zero (b a : Bool) : effectAllows .zero b a ↔ a = false := Iff.rfl
@[simp] theorem effectAllows_one (b a : Bool) : effectAllows .one b a ↔ a = true := Iff.rfl
@[simp] theorem effectAllows_comp (b a : Bool) : effectAllows .comp b a ↔ True := Iff.rfl

@[simp] theorem noteAllows_kept (f : Flags) : noteAllows .kept f f := ⟨rfl, rfl, rfl, rfl⟩

theorem noteAllows_alu (op : Alu) (a v : Byte) (f : Flags) : noteAllows op.note f (op.run a v f).2 := by
  cases op <;> simp [Alu.note, Alu.run, noteAllows]

theorem noteAllows_rot (op : Rot) (v res : Byte) (cin : Bool) (f : Flags) :
    noteAllows op.note f (rotFlags res (op.run v cin).2) := by
  cases op <;> simp [Rot.note, rotFlags, Rot.run, noteAllows]

theorem noteAllows_inc (v : Byte) (f : Flags) : noteAllows ⟨.comp, .zero, .comp, .keep⟩ f (incFlags v f) := by
  simp [noteAllows, incFlags]

theorem noteAllows_dec (v : Byte) (f : Flags) : noteAllows ⟨.comp, .one, .comp, .keep⟩ f (decFlags v f) := by
  simp [noteAllows, decFlags]

theorem noteAllows_bit (b : Fin 8) (v : Byte) (f : Flags) :
    noteAllows ⟨.comp, .zero, .one, .keep⟩ f (bitFlags b v f) := by
  simp [noteAllows, bitFlags]

theorem noteAllows_daa (a : Byte) (f : Flags) : noteAllows ⟨.comp, .keep, .zero, .comp⟩ f (daa a f).2 := by
  simp [noteAllows, daa]

theorem noteAllows_spFlags (o : Alu16Out) (f : Flags) : noteAllows ⟨.zero, .zero, .comp, .comp⟩ f o.spFlags := by
  simp [noteAllows, Alu16Out.spFlags]

theorem noteAllows_pop (s : State) (p : StackPair) (v : Word) : noteAllows p.popNote s.f (s.setStackPair p v).f := by
  cases p
  case af => simp [noteAllows, StackPair.popNote]
  all_goals exact noteAllows_kept s.f

/-! ## The shared operations

`s.Ran n cs t`: from `s` to `t` the engine state is unchanged, the flags obey the annotation `n`, and the cost is one of
`cs`. An operation that writes part of the engine state is said to run from `s` with that part already written. -/

/-- What an operation with the annotation `n` and the costs `cs` leaves, run from `s`. -/
structure State.Ran (n : FlagNote) (cs : List Nat) (s t : State) : Prop where
  engine : t.engine = s.engine
  flags : noteAllows n s.f t.f
  cost : t.cycles ∈ cs

theorem State.Quiet.ran {n : FlagNote} {cs : List Nat} {s u t : State} (h : s.Quiet u) (k : u.Ran n cs t) :
    s.Ran n cs t := ⟨k.engine.trans h.1, h.2 ▸ k.flags, k.cost⟩

/-- The operation runs from `s` with the annotation and the costs, or ends in a bus fault. -/
abbrev Runs (s : State) (n : FlagNote) (cs : List Nat) (o : Out) : Prop := Ends o (State.Ran n cs s) BusAbort never

/-- After bus accesses, what is run from the state they leave is run from the state before them. -/
theorem Runs.after {α : Type} {s : State} {o : Host.Outcome α Fault Refusal} {k : α → Out} {n : FlagNote}
    {cs : List Nat} (left : α → State) (h : Ends o (fun a => s.Quiet (left a)) BusAbort never)
    (hk : ∀ a, Runs (left a) n cs (k a)) : Runs s n cs (andThen o k) :=
  h.andThen (fun a ha => (hk a).mono (fun _ => ha.ran) (fun _ => id) fun _ => id) (fun _ => id) fun _ => id

/-- Charging the cost to a state with the same engine state and flags. -/
theorem State.ran_charge {s u : State} {n : FlagNote} {c : Nat} (he : u.engine = s.engine) (hf : noteAllows n s.f u.f) :
    s.Ran n [c] (u.charge c) := ⟨he, hf, by simp⟩

theorem idle_runs (c : Nat) (s : State) : Runs s .kept [c] (idle c s) := State.ran_charge rfl (noteAllows_kept _)

theorem ldRR_runs (dst src : Reg8) (s : State) : Runs s .kept [4] (ldRR dst src s) :=
  State.ran_charge (by simp) (by simp)

theorem ldRN_runs (dst : Reg8) (v : Byte) (s : State) : Runs s .kept [8] (ldRN dst v s) :=
  State.ran_charge (by simp) (by simp)

theorem ldPairN_runs (p : Pair) (v : Word) (s : State) : Runs s .kept [12] (ldPairN p v s) :=
  State.ran_charge (by simp) (by simp)

theorem ldSpHL_runs (s : State) : Runs s .kept [8] (ldSpHL s) := State.ran_charge (by simp) (by simp)

theorem incPair_runs (p : Pair) (s : State) : Runs s .kept [8] (incPair p s) := State.ran_charge (by simp) (by simp)

theorem decPair_runs (p : Pair) (s : State) : Runs s .kept [8] (decPair p s) := State.ran_charge (by simp) (by simp)

theorem addHL_runs (p : Pair) (s : State) : Runs s ⟨.keep, .zero, .comp, .comp⟩ [8] (addHL p s) :=
  State.ran_charge (by simp) (by simp [noteAllows])

theorem addSp_runs (e : Byte) (s : State) : Runs s ⟨.zero, .zero, .comp, .comp⟩ [16] (addSp e s) :=
  State.ran_charge (by simp) (noteAllows_spFlags _ _)

theorem ldHLSp_runs (e : Byte) (s : State) : Runs s ⟨.zero, .zero, .comp, .comp⟩ [12] (ldHLSp e s) :=
  State.ran_charge (by simp) (noteAllows_spFlags _ _)

theorem aluR_runs (op : Alu) (r : Reg8) (s : State) : Runs s op.note [4] (aluR op r s) :=
  State.ran_charge rfl (noteAllows_alu op _ _ _)

theorem aluN_runs (op : Alu) (v : Byte) (s : State) : Runs s op.note [8] (aluN op v s) :=
  State.ran_charge rfl (noteAllows_alu op _ _ _)

theorem aluM_runs (op : Alu) (s : State) : Runs s op.note [8] (aluM op s) :=
  .after Prod.snd (read8_quiet _ s) fun _ => State.ran_charge rfl (noteAllows_alu op _ _ _)

theorem incR_runs (r : Reg8) (s : State) : Runs s ⟨.comp, .zero, .comp, .keep⟩ [4] (incR r s) :=
  State.ran_charge (by simp) (noteAllows_inc _ _)

theorem decR_runs (r : Reg8) (s : State) : Runs s ⟨.comp, .one, .comp, .keep⟩ [4] (decR r s) :=
  State.ran_charge (by simp) (noteAllows_dec _ _)

theorem incM_runs (s : State) : Runs s ⟨.comp, .zero, .comp, .keep⟩ [12] (incM s) :=
  .after Prod.snd (read8_quiet _ s) fun v => .after id (write8_quiet _ _ v.2) fun _ =>
    State.ran_charge rfl (noteAllows_inc _ _)

theorem decM_runs (s : State) : Runs s ⟨.comp, .one, .comp, .keep⟩ [12] (decM s) :=
  .after Prod.snd (read8_quiet _ s) fun v => .after id (write8_quiet _ _ v.2) fun _ =>
    State.ran_charge rfl (noteAllows_dec _ _)

theorem adjustA_runs (s : State) : Runs s ⟨.comp, .keep, .zero, .comp⟩ [4] (adjustA s) :=
  State.ran_charge rfl (noteAllows_daa _ _)

theorem complementA_runs (s : State) : Runs s ⟨.keep, .one, .one, .keep⟩ [4] (complementA s) :=
  State.ran_charge rfl (by simp [noteAllows])

theorem setCarry_runs (s : State) : Runs s ⟨.keep, .zero, .zero, .one⟩ [4] (setCarry s) :=
  State.ran_charge rfl (by simp [noteAllows])

theorem flipCarry_runs (s : State) : Runs s ⟨.keep, .zero, .zero, .comp⟩ [4] (flipCarry s) :=
  State.ran_charge rfl (by simp [noteAllows])

theorem rotA_runs (op : Rot) (s : State) : Runs s ⟨.zero, .zero, .zero, .comp⟩ [4] (rotA op s) :=
  State.ran_charge rfl (by simp [noteAllows])

theorem rotR_runs (op : Rot) (r : Reg8) (s : State) : Runs s op.note [8] (rotR op r s) :=
  State.ran_charge (by simp) (noteAllows_rot op _ _ _ _)

theorem rotM_runs (op : Rot) (s : State) : Runs s op.note [16] (rotM op s) :=
  .after Prod.snd (read8_quiet _ s) fun v => .after id (write8_quiet _ _ v.2) fun _ =>
    State.ran_charge rfl (noteAllows_rot op _ _ _ _)

theorem testBitR_runs (b : Fin 8) (r : Reg8) (s : State) : Runs s ⟨.comp, .zero, .one, .keep⟩ [8] (testBitR b r s) :=
  State.ran_charge rfl (noteAllows_bit b _ _)

theorem testBitM_runs (b : Fin 8) (s : State) : Runs s ⟨.comp, .zero, .one, .keep⟩ [12] (testBitM b s) :=
  .after Prod.snd (read8_quiet _ s) fun _ => State.ran_charge rfl (noteAllows_bit b _ _)

theorem resetBitR_runs (b : Fin 8) (r : Reg8) (s : State) : Runs s .kept [8] (resetBitR b r s) :=
  State.ran_charge (by simp) (by simp)

theorem setBitR_runs (b : Fin 8) (r : Reg8) (s : State) : Runs s .kept [8] (setBitR b r s) :=
  State.ran_charge (by simp) (by simp)

theorem modifyM_runs (g : Byte → Byte) (s : State) : Runs s .kept [16] (modifyM g s) :=
  .after Prod.snd (read8_quiet _ s) fun v => .after id (write8_quiet _ _ v.2) fun _ =>
    State.ran_charge rfl (noteAllows_kept _)

theorem loadR_runs (dst : Reg8) (a : Word) (c : Nat) (s : State) : Runs s .kept [c] (loadR dst a c s) :=
  .after Prod.snd (read8_quiet a s) fun _ => State.ran_charge (by simp) (by simp)

theorem store_runs (a : Word) (v : Byte) (c : Nat) (s : State) : Runs s .kept [c] (store a v c s) :=
  .after id (write8_quiet a v s) fun _ => State.ran_charge rfl (noteAllows_kept _)

theorem loadAMoveHL_runs (k : Word) (s : State) : Runs s .kept [8] (loadAMoveHL k s) :=
  .after Prod.snd (read8_quiet _ s) fun _ => State.ran_charge rfl (noteAllows_kept _)

theorem storeAMoveHL_runs (k : Word) (s : State) : Runs s .kept [8] (storeAMoveHL k s) :=
  .after id (write8_quiet _ _ s) fun _ => State.ran_charge rfl (noteAllows_kept _)

theorem storeSp_runs (a : Word) (s : State) : Runs s .kept [20] (storeSp a s) :=
  .after id (write16_quiet a _ s) fun _ => State.ran_charge rfl (noteAllows_kept _)

theorem pushPair_runs (p : StackPair) (s : State) : Runs s .kept [16] (pushPair p s) :=
  .after id (push16_quiet _ s) fun _ => State.ran_charge rfl (noteAllows_kept _)

theorem popPair_runs (p : StackPair) (s : State) : Runs s p.popNote [12] (popPair p s) :=
  .after Prod.snd (pop16_quiet s) fun v => State.ran_charge (by simp) (noteAllows_pop v.2 p v.1)

end Machine
end Sys2Proof
end

section
/-! What one instruction can end in, once for all instructions (`exec_ends`): the engine state it leaves, the flags and the
cost its ROM entry announces, a bus fault, or the refusal of STOP. -/

namespace Sys2Proof

open Machine

/-- The flag annotation and the costs of the instruction's ROM entry (10_state.md R20, R35). -/
def Instr.romNote (i : Instr) : Option (FlagNote × List Nat) := i.opcode.map fun op => (op.flags, op.cycles)

namespace Machine

/-! ## Every instruction -/

/-- The refusal of STOP (45_system.md R201), recorded in the state it leaves. -/
def StopRefusal (s : State) (r : Refusal) : Prop :=
  r = .stop (s.pc - 2#16) s.markFaulted ∧ s.config.stopMode = .refuse

/-- What a next state of the instruction `i` run from `s` may be: the engine state written only where `i` controls it, and
the flags and the cost as the ROM entry of `i` announces them. -/
structure State.Executed (i : Instr) (s t : State) : Prop where
  pc : i.transfers = false → t.pc = s.pc
  interrupts : i.controlsInterrupts = false → t.ime = s.ime ∧ t.imeScheduled = s.imeScheduled
  mode : i ≠ .halt → t.mode = s.mode
  setup : s.sameSetup t
  faulted : t.faulted = s.faulted
  rom : ∃ op, i.opcode = some op ∧ noteAllows op.flags s.f t.f ∧ t.cycles ∈ op.cycles

/-- What `i` does where it runs from a state `u` that differs from `s` only in the engine state that `i` controls. -/
theorem State.Ran.executed {i : Instr} {n : FlagNote} {cs : List Nat} {s u t : State} (h : u.Ran n cs t)
    (hn : i.romNote = some (n, cs)) (hf : u.f = s.f) (hpc : i.transfers = false → u.pc = s.pc)
    (hi : i.controlsInterrupts = false → u.ime = s.ime ∧ u.imeScheduled = s.imeScheduled)
    (hm : i ≠ .halt → u.mode = s.mode) (hs : s.sameSetup u) (hfault : u.faulted = s.faulted) : s.Executed i t := by
  obtain ⟨he, flags, cost⟩ := h
  simp only [State.engine, Engine.mk.injEq] at he
  obtain ⟨epc, eime, esched, emode, ereg, enext, econf, efault⟩ := he
  simp only [Instr.romNote, Option.map_eq_some_iff, Prod.mk.injEq] at hn
  obtain ⟨op, hop, rfl, rfl⟩ := hn
  exact
    { pc := fun h => epc.trans (hpc h)
      interrupts := fun h => ⟨eime.trans (hi h).1, esched.trans (hi h).2⟩
      mode := fun h => emode.trans (hm h)
      setup := ⟨ereg.trans hs.1, enext.trans hs.2.1, econf.trans hs.2.2⟩
      faulted := efault.trans hfault
      rom := ⟨op, hop, hf ▸ flags, cost⟩ }

/-- The instruction writes no engine state, and does what its ROM entry announces. -/
def Plain (i : Instr) : Prop :=
  ∃ n cs, i.romNote = some (n, cs) ∧ ∀ s : State, Runs s n cs (exec i s)

/-- The instruction transfers control: it writes `pc` and no other engine state, and keeps the flags. -/
def Transfers (i : Instr) : Prop :=
  i.transfers = true ∧ ∃ cs, i.romNote = some (.kept, cs) ∧
    ∀ s : State, Ends (exec i s) (fun t => (s.setPc t.pc).Ran .kept cs t) BusAbort never

/-- What `exec` of the instruction can end in, from every state. -/
def Executes (i : Instr) : Prop := ∀ s : State, Ends (exec i s) (s.Executed i) BusAbort (StopRefusal s)

theorem Plain.executes {i : Instr} (h : Plain i) : Executes i := by
  obtain ⟨n, cs, hn, hr⟩ := h
  exact fun s => (hr s).mono
    (fun t ht => ht.executed hn rfl (fun _ => rfl) (fun _ => ⟨rfl, rfl⟩) (fun _ => rfl) ⟨rfl, rfl, rfl⟩ rfl)
    (fun _ => id) (fun _ => False.elim)

theorem Transfers.executes {i : Instr} (h : Transfers i) : Executes i := by
  obtain ⟨hi, cs, hn, hr⟩ := h
  exact fun s => (hr s).mono
    (fun t ht => ht.executed hn rfl (fun hf => by simp [hi] at hf) (fun _ => ⟨rfl, rfl⟩) (fun _ => rfl)
      ⟨rfl, rfl, rfl⟩ rfl)
    (fun _ => id) (fun _ => False.elim)

/-- A form whose meaning is the shared operation `o` is plain where `o` runs by the form's ROM entry. -/
theorem Plain.of_runs {i : Instr} {o : State → Out} {n : FlagNote} {cs : List Nat} (he : ∀ s, exec i s = o s)
    (hn : i.romNote = some (n, cs)) (ho : ∀ s, Runs s n cs (o s)) : Plain i :=
  ⟨n, cs, hn, fun s => (he s).symm ▸ ho s⟩

/-! ### The prefixed instructions -/

theorem plain_rotR (op : Rot) (r : Reg8) : Plain (Instr.rotR op r) :=
  .of_runs (exec_rotR op r) (by cases op <;> cases r <;> rfl) (rotR_runs op r)

theorem plain_rotM (op : Rot) : Plain (Instr.rotM op) :=
  .of_runs (exec_rotM op) (by cases op <;> rfl) (rotM_runs op)

theorem plain_bitR (b : Fin 8) (r : Reg8) : Plain (Instr.bitR b r) :=
  .of_runs (exec_bitR b r) (by fin_cases b <;> cases r <;> rfl) (testBitR_runs b r)

theorem plain_bitM (b : Fin 8) : Plain (Instr.bitM b) :=
  .of_runs (exec_bitM b) (by fin_cases b <;> rfl) (testBitM_runs b)

theorem plain_resR (b : Fin 8) (r : Reg8) : Plain (Instr.resR b r) :=
  .of_runs (exec_resR b r) (by fin_cases b <;> cases r <;> rfl) (resetBitR_runs b r)

theorem plain_resM (b : Fin 8) : Plain (Instr.resM b) :=
  .of_runs (exec_resM b) (by fin_cases b <;> rfl) (modifyM_runs _)

theorem plain_setR (b : Fin 8) (r : Reg8) : Plain (Instr.setR b r) :=
  .of_runs (exec_setR b r) (by fin_cases b <;> cases r <;> rfl) (setBitR_runs b r)

theorem plain_setM (b : Fin 8) : Plain (Instr.setM b) :=
  .of_runs (exec_setM b) (by fin_cases b <;> rfl) (modifyM_runs _)

theorem plain_prefixed (op2 : Byte) : Plain (Instr.prefixed op2) := by
  simp only [Instr.prefixed]
  generalize (op2.extractLsb' 6 2).toNat = x
  match x, Operand8.ofCode (op2.extractLsb' 0 3) with
  | 0, .reg r => exact plain_rotR _ r
  | 0, .atHL => exact plain_rotM _
  | 1, .reg r => exact plain_bitR _ r
  | 1, .atHL => exact plain_bitM _
  | 2, .reg r => exact plain_resR _ r
  | 2, .atHL => exact plain_resM _
  | _ + 3, .reg r => exact plain_setR _ r
  | _ + 3, .atHL => exact plain_setM _

/-- The row of the marker and the prefixed instruction of its byte have the same bytes (45_system.md R204). -/
theorem encode_prefixCB : ∀ op2 : Byte, encode (.prefixCB op2) = encode (Instr.prefixed op2) := by decide

theorem plain_prefixCB (op2 : Byte) : Plain (.prefixCB op2) := by
  obtain ⟨n, cs, hn, hr⟩ := plain_prefixed op2
  refine ⟨n, cs, ?_, fun s => ?_⟩
  · simpa only [Instr.romNote, Instr.opcode, encode_prefixCB] using hn
  · rw [exec_prefixCB, runPrefixed_eq]
    exact hr s

/-! ### The control transfers -/

/-- The operation writes `pc` and no other engine state, keeps the flags and costs one of `cs`, or ends in a bus fault. -/
abbrev Jumps (s : State) (cs : List Nat) (o : Out) : Prop :=
  Ends o (fun t => (s.setPc t.pc).Ran .kept cs t) BusAbort never

theorem Jumps.after {α : Type} {s : State} {o : Host.Outcome α Fault Refusal} {k : α → Out} {cs : List Nat}
    (left : α → State) (h : Ends o (fun a => s.Quiet (left a)) BusAbort never) (hk : ∀ a, Jumps (left a) cs (k a)) :
    Jumps s cs (andThen o k) :=
  h.andThen (fun a ha => (hk a).mono (fun t ht => (ha.setPc t.pc).ran ht) (fun _ => id) fun _ => id) (fun _ => id)
    fun _ => id

/-- A branch taken or not costs one of the two (30_encoding.md R95). -/
theorem Jumps.ite {s : State} {c d : Nat} {p : Prop} [Decidable p] {o : Out} (h : Jumps s [c] o) :
    Jumps s [c, d] (if p then o else .next (s.charge d)) := by
  split
  · exact h.mono (fun t ht => ⟨ht.engine, ht.flags, List.mem_append_left [d] ht.cost⟩)
      (fun _ => id) fun _ => id
  · exact ⟨rfl, noteAllows_kept _, by simp⟩

theorem jump_jumps (target : Word) (c : Nat) (s : State) : Jumps s [c] (jump target c s) :=
  State.ran_charge rfl (noteAllows_kept _)

theorem jumpIf_jumps (cc : Cond) (target : Word) (c d : Nat) (s : State) : Jumps s [c, d] (jumpIf cc target c d s) :=
  .ite (jump_jumps target c s)

theorem call_jumps (target : Word) (c : Nat) (s : State) : Jumps s [c] (call target c s) :=
  .after id (push16_quiet s.pc s) fun _ => State.ran_charge rfl (noteAllows_kept _)

theorem callIf_jumps (cc : Cond) (target : Word) (s : State) : Jumps s [24, 12] (callIf cc target s) :=
  .ite (call_jumps target 24 s)

theorem ret_jumps (c : Nat) (s : State) : Jumps s [c] (ret c s) :=
  .after Prod.snd (pop16_quiet s) fun _ => State.ran_charge rfl (noteAllows_kept _)

theorem retIf_jumps (cc : Cond) (s : State) : Jumps s [20, 8] (retIf cc s) := .ite (ret_jumps 20 s)

/-- A form whose meaning is the shared operation `o` transfers where `o` jumps by the form's ROM entry. -/
theorem Transfers.of_jumps {i : Instr} {o : State → Out} {cs : List Nat} (he : ∀ s, exec i s = o s)
    (hi : i.transfers = true) (hn : i.romNote = some (.kept, cs)) (ho : ∀ s, Jumps s cs (o s)) : Transfers i :=
  ⟨hi, cs, hn, fun s => (he s).symm ▸ ho s⟩

/-! ### The instructions on the engine's own state -/

theorem executes_stop (n : Byte) : Executes (.stop_n8 n) := by
  intro s
  have hn : (Instr.stop_n8 n).romNote = some (.kept, [4]) := rfl
  rw [exec_stop_n8, stop]
  cases hm : s.config.stopMode with
  | nop =>
    exact (idle_runs 4 s).executed hn rfl (fun _ => rfl) (fun _ => ⟨rfl, rfl⟩) (fun _ => rfl) ⟨rfl, rfl, rfl⟩ rfl
  | refuse => exact ⟨rfl, hm⟩

theorem executes_halt : Executes .halt := fun s =>
  (State.ran_charge (s := { s with mode := .halted }) rfl (noteAllows_kept _)).executed (i := .halt) rfl rfl
    (fun _ => rfl) (fun _ => ⟨rfl, rfl⟩) (fun h => absurd rfl h) ⟨rfl, rfl, rfl⟩ rfl

theorem executes_di : Executes .di := fun s =>
  (State.ran_charge (s := s.disableInterrupts) rfl (noteAllows_kept _)).executed (i := .di) rfl rfl
    (fun _ => rfl) (fun h => absurd h (by decide)) (fun _ => rfl) ⟨rfl, rfl, rfl⟩ rfl

theorem executes_ei : Executes .ei := by
  intro s
  have ran (u : State) (hf : u.f = s.f) (hpc : u.pc = s.pc) (hm : u.mode = s.mode) (hs : s.sameSetup u)
      (hfault : u.faulted = s.faulted) : s.Executed .ei (u.charge 4) :=
    (State.ran_charge (s := u) rfl (noteAllows_kept _)).executed rfl hf (fun _ => hpc)
      (fun h => absurd h (by decide)) (fun _ => hm) hs hfault
  rw [exec_ei, enable]
  split <;> exact ran _ rfl rfl rfl ⟨rfl, rfl, rfl⟩ rfl

theorem executes_reti : Executes .reti := by
  intro s
  have runs : Ends (reti s) (fun t => (s.setPc t.pc).enableInterruptsNow.Ran .kept [16] t) BusAbort never := by
    rw [reti, returnFromInterrupt, andThen_assoc]
    refine (pop16_quiet s).andThen (fun v hv => ?_) (fun _ => id) fun _ => id
    exact (hv.setPc v.1).enableInterruptsNow.ran (State.ran_charge rfl (noteAllows_kept _))
  exact runs.mono
    (fun t ht => ht.executed rfl rfl (fun h => absurd h (by decide)) (fun h => absurd h (by decide)) (fun _ => rfl)
      ⟨rfl, rfl, rfl⟩ rfl)
    (fun _ => id) fun _ => False.elim

/-! ### All forms -/

/-- Everything an instruction can end in: what its ROM entry announces, a bus fault, or the refusal of STOP. -/
theorem exec_ends (i : Instr) : Executes i := by
  induction i using Instr.byForm with
  | h_nop => exact (Plain.of_runs exec_nop rfl (idle_runs 4)).executes
  | h_ldPairN p n => exact (Plain.of_runs (exec_ldPairN p n) (by cases p <;> rfl) (ldPairN_runs p n)).executes
  | h_ld_mBC_a => exact (Plain.of_runs exec_ld_mBC_a rfl fun s => store_runs _ _ 8 s).executes
  | h_incPair p => exact (Plain.of_runs (exec_incPair p) (by cases p <;> rfl) (incPair_runs p)).executes
  | h_incR r => exact (Plain.of_runs (exec_incR r) (by cases r <;> rfl) (incR_runs r)).executes
  | h_decR r => exact (Plain.of_runs (exec_decR r) (by cases r <;> rfl) (decR_runs r)).executes
  | h_ldRN dst n => exact (Plain.of_runs (exec_ldRN dst n) (by cases dst <;> rfl) (ldRN_runs dst n)).executes
  | h_rlca => exact (Plain.of_runs exec_rlca rfl (rotA_runs .rlc)).executes
  | h_ld_mA16_sp a => exact (Plain.of_runs (exec_ld_mA16_sp a) rfl (storeSp_runs a)).executes
  | h_addHL p => exact (Plain.of_runs (exec_addHL p) (by cases p <;> rfl) (addHL_runs p)).executes
  | h_ld_a_mBC => exact (Plain.of_runs exec_ld_a_mBC rfl fun s => loadR_runs .a _ 8 s).executes
  | h_decPair p => exact (Plain.of_runs (exec_decPair p) (by cases p <;> rfl) (decPair_runs p)).executes
  | h_rrca => exact (Plain.of_runs exec_rrca rfl (rotA_runs .rrc)).executes
  | h_stop_n8 n => exact executes_stop n
  | h_ld_mDE_a => exact (Plain.of_runs exec_ld_mDE_a rfl fun s => store_runs _ _ 8 s).executes
  | h_rla => exact (Plain.of_runs exec_rla rfl (rotA_runs .rl)).executes
  | h_jr_e8 e => exact (Transfers.of_jumps (exec_jr_e8 e) rfl rfl fun s => jump_jumps _ 12 s).executes
  | h_ld_a_mDE => exact (Plain.of_runs exec_ld_a_mDE rfl fun s => loadR_runs .a _ 8 s).executes
  | h_rra => exact (Plain.of_runs exec_rra rfl (rotA_runs .rr)).executes
  | h_jrIf cc e =>
    exact (Transfers.of_jumps (exec_jrIf cc e) (by cases cc <;> rfl) (by cases cc <;> rfl)
      fun s => jumpIf_jumps cc _ 12 8 s).executes
  | h_ld_mHLinc_a => exact (Plain.of_runs exec_ld_mHLinc_a rfl (storeAMoveHL_runs _)).executes
  | h_daa => exact (Plain.of_runs exec_daa rfl adjustA_runs).executes
  | h_ld_a_mHLinc => exact (Plain.of_runs exec_ld_a_mHLinc rfl (loadAMoveHL_runs _)).executes
  | h_cpl => exact (Plain.of_runs exec_cpl rfl complementA_runs).executes
  | h_ld_mHLdec_a => exact (Plain.of_runs exec_ld_mHLdec_a rfl (storeAMoveHL_runs _)).executes
  | h_inc_mHL => exact (Plain.of_runs exec_inc_mHL rfl incM_runs).executes
  | h_dec_mHL => exact (Plain.of_runs exec_dec_mHL rfl decM_runs).executes
  | h_ld_mHL_n8 n => exact (Plain.of_runs (exec_ld_mHL_n8 n) rfl fun s => store_runs _ n 12 s).executes
  | h_scf => exact (Plain.of_runs exec_scf rfl setCarry_runs).executes
  | h_ld_a_mHLdec => exact (Plain.of_runs exec_ld_a_mHLdec rfl (loadAMoveHL_runs _)).executes
  | h_ccf => exact (Plain.of_runs exec_ccf rfl flipCarry_runs).executes
  | h_ldRR dst r =>
    exact (Plain.of_runs (exec_ldRR dst r) (by cases dst <;> cases r <;> rfl) (ldRR_runs dst r)).executes
  | h_ldRM dst => exact (Plain.of_runs (exec_ldRM dst) (by cases dst <;> rfl) fun s => loadR_runs dst _ 8 s).executes
  | h_ldMR r => exact (Plain.of_runs (exec_ldMR r) (by cases r <;> rfl) fun s => store_runs _ _ 8 s).executes
  | h_halt => exact executes_halt
  | h_aluR op r => exact (Plain.of_runs (exec_aluR op r) (by cases op <;> cases r <;> rfl) (aluR_runs op r)).executes
  | h_aluM op => exact (Plain.of_runs (exec_aluM op) (by cases op <;> rfl) (aluM_runs op)).executes
  | h_retIf cc =>
    exact (Transfers.of_jumps (exec_retIf cc) (by cases cc <;> rfl) (by cases cc <;> rfl) (retIf_jumps cc)).executes
  | h_pop p => exact (Plain.of_runs (exec_pop p) (by cases p <;> rfl) (popPair_runs p)).executes
  | h_jpIf cc a =>
    exact (Transfers.of_jumps (exec_jpIf cc a) (by cases cc <;> rfl) (by cases cc <;> rfl)
      (jumpIf_jumps cc a 16 12)).executes
  | h_jp_a16 a => exact (Transfers.of_jumps (exec_jp_a16 a) rfl rfl (jump_jumps a 16)).executes
  | h_callIf cc a =>
    exact (Transfers.of_jumps (exec_callIf cc a) (by cases cc <;> rfl) (by cases cc <;> rfl)
      (callIf_jumps cc a)).executes
  | h_push p => exact (Plain.of_runs (exec_push p) (by cases p <;> rfl) (pushPair_runs p)).executes
  | h_aluN op n => exact (Plain.of_runs (exec_aluN op n) (by cases op <;> rfl) (aluN_runs op n)).executes
  | h_rst y =>
    exact (Transfers.of_jumps (exec_rst y) (by fin_cases y <;> rfl) (by fin_cases y <;> rfl)
      (call_jumps _ 16)).executes
  | h_ret => exact (Transfers.of_jumps exec_ret rfl rfl (ret_jumps 16)).executes
  | h_prefixCB op2 => exact (plain_prefixCB op2).executes
  | h_call_a16 a => exact (Transfers.of_jumps (exec_call_a16 a) rfl rfl (call_jumps a 24)).executes
  | h_reti => exact executes_reti
  | h_ldh_mA8_a a => exact (Plain.of_runs (exec_ldh_mA8_a a) rfl fun s => store_runs _ _ 12 s).executes
  | h_ld_mC_a => exact (Plain.of_runs exec_ld_mC_a rfl fun s => store_runs _ _ 8 s).executes
  | h_add_sp_e8 e => exact (Plain.of_runs (exec_add_sp_e8 e) rfl (addSp_runs e)).executes
  | h_jp_hl => exact (Transfers.of_jumps exec_jp_hl rfl rfl fun s => jump_jumps _ 4 s).executes
  | h_ld_mA16_a a => exact (Plain.of_runs (exec_ld_mA16_a a) rfl fun s => store_runs a _ 16 s).executes
  | h_ldh_a_mA8 a => exact (Plain.of_runs (exec_ldh_a_mA8 a) rfl fun s => loadR_runs .a _ 12 s).executes
  | h_ld_a_mC => exact (Plain.of_runs exec_ld_a_mC rfl fun s => loadR_runs .a _ 8 s).executes
  | h_di => exact executes_di
  | h_ld_hl_spE8 e => exact (Plain.of_runs (exec_ld_hl_spE8 e) rfl (ldHLSp_runs e)).executes
  | h_ld_sp_hl => exact (Plain.of_runs exec_ld_sp_hl rfl ldSpHL_runs).executes
  | h_ld_a_mA16 a => exact (Plain.of_runs (exec_ld_a_mA16 a) rfl fun s => loadR_runs .a a 16 s).executes
  | h_ei => exact executes_ei
  | h_rotR op r => exact (plain_rotR op r).executes
  | h_rotM op => exact (plain_rotM op).executes
  | h_bitR b r => exact (plain_bitR b r).executes
  | h_bitM b => exact (plain_bitM b).executes
  | h_resR b r => exact (plain_resR b r).executes
  | h_resM b => exact (plain_resM b).executes
  | h_setR b r => exact (plain_setR b r).executes
  | h_setM b => exact (plain_setM b).executes

/-- What a next state of an instruction may be. -/
theorem exec_next {i : Instr} {s t : State} (h : exec i s = .next t) : s.Executed i t := by
  have := exec_ends i s
  rwa [h] at this

end Machine
end Sys2Proof

open Sys2Proof Sys2Proof.Machine

/-- Settles O37, by the flags and the cost that every instruction's next state has (`exec_ends`). -/
theorem romAnnotationsHold : Obligations.RomAnnotationsHold := fun _ _ _ h => (exec_next h).rom

/-- Settles O38, by the engine state that every instruction's next state has (`exec_ends`). -/
theorem onlyControlWritesEngineState : Obligations.OnlyControlWritesEngineState := by
  intro i s t h
  obtain ⟨hpc, hi, hm, hs, hf, -⟩ := exec_next h
  exact ⟨hpc, hi, hm, hs, hf⟩
end

section
/-! What a step and a move of the host can end in (60_exceptions.md R205-R208, R238; 10_state.md R33). -/

namespace Sys2Proof

/-- Every prefixed opcode is an instruction (30_encoding.md R84): no prefixed byte is undefined. -/
theorem decodePrefixed_ok (b : Byte) (rest : List Byte) : ∃ i, decodePrefixed b rest = .ok (i, rest) := by
  have plain : ∀ b : Byte,
      (match (opcodeFromByte b true).map Opcode.form with | some (.plain _) => true | _ => false) = true := by decide
  have hb := plain b
  unfold decodePrefixed
  split
  · exact ⟨_, rfl⟩
  · next hne =>
    split at hb
    · next i hi => exact absurd hi (hne i)
    · cases hb

/-- The operand bytes of a defined opcode fail to decode only by ending too soon. -/
theorem decodeForm_error {form : OpForm} {rest : List Byte} {e : DecodeError}
    (h : decodeForm form rest = .error e) : e = .truncated := by
  match form, rest, h with
  | .imm8 _, [], h | .imm16 _, [], h | .imm16 _, [_], h | .marker, [], h => cases h; rfl
  | .marker, b1 :: rest', h =>
    obtain ⟨i, hi⟩ := decodePrefixed_ok b1 rest'
    cases hi.symm.trans h

/-- A byte without a meaning is an unprefixed one (30_encoding.md R80). -/
theorem decode_undefinedOpcode {bytes : List Byte} {p : Bool} {b : Byte}
    (h : decode bytes = .error (.undefinedOpcode p b)) : p = false := by
  cases bytes with
  | nil => cases h
  | cons b0 rest =>
    simp only [decode] at h
    split at h
    · cases h; rfl
    · cases decodeForm_error h

namespace Machine

/-! ## The fetch -/

/-- The fault is a decode failure, not prefixed, recorded in the state it leaves (60_exceptions.md R206). -/
def DecodeAbort (r : Fault) : Prop := ∃ pc0 b t, r = .decodeFailure pc0 false b (State.markFaulted t)

/-- The fault is one of the two that the hardware has (60_exceptions.md R205). -/
def HardwareFault (r : Fault) : Prop := DecodeAbort r ∨ BusAbort r

theorem HardwareFault.faulted {r : Fault} (h : HardwareFault r) : r.final.faulted = true := by
  rcases h with ⟨pc0, b, t, rfl⟩ | ⟨a, kind, v, handle, t, rfl⟩ <;> rfl

theorem readBytes_quiet (n : Nat) (a : Word) (s : State) :
    Ends (readBytes n a s) (fun v => s.Quiet v.2) BusAbort never := by
  induction n generalizing a s with
  | zero => exact .refl s
  | succ n ih =>
    refine (read8_quiet a s).andThen (fun b hb => ?_) (fun _ => id) fun _ => id
    exact (ih (a + 1#16) b.2).andThen (fun rest hr => hb.trans hr) (fun _ => id) fun _ => id

/-- A fetch moves `pc` alone of the engine state, and keeps the flags, or it ends in one of the two faults. -/
theorem fetch_ends (s : State) : Ends (fetch s) (fun v => (s.setPc v.2.pc).Quiet v.2) HardwareFault never := by
  refine (read8_quiet s.pc s).andThen (fun b0 h0 => ?_) (fun _ => .inr) fun _ => id
  split
  · exact .inl ⟨_, _, _, rfl⟩
  · refine (readBytes_quiet _ _ b0.2).andThen (fun rest hr => ?_) (fun _ => .inr) fun _ => id
    split
    · exact (h0.trans hr).setPc _
    · next e he =>
      cases e with
      | undefinedOpcode p b =>
        obtain rfl := decode_undefinedOpcode he
        exact .inl ⟨_, _, _, rfl⟩
      | truncated => exact .inl ⟨_, _, _, rfl⟩

/-! ## The step -/

/-- The refusal is that of STOP under `P_STOP_MODE = Refuse`, recorded in the state it leaves (45_system.md R201). -/
def RefusedByStop (c : Config) (r : Refusal) : Prop :=
  ∃ pc0 t, r = .stop pc0 t ∧ t.faulted = true ∧ c.stopMode = .refuse

theorem fetchDecodeExecute_ends (s : State) :
    Ends (fetchDecodeExecute s) (fun t => t.config = s.config) HardwareFault (RefusedByStop s.config) := by
  refine (fetch_ends s).andThen (fun v hv => ?_) (fun _ => id) (fun _ => False.elim)
  have hc : v.2.config = s.config := congrArg Engine.config hv.1
  refine (exec_ends v.1 v.2).mono (fun t ht => ht.setup.2.2.trans hc) (fun _ => .inr) ?_
  rintro _ ⟨rfl, hm⟩
  exact ⟨_, _, rfl, rfl, hc ▸ hm⟩

theorem instructionPhase_ends (s : State) :
    Ends (instructionPhase s) (fun t => t.config = s.config) HardwareFault (RefusedByStop s.config) := by
  unfold instructionPhase
  split
  · exact rfl
  · exact fetchDecodeExecute_ends s

theorem pollInterrupts_aborts (s : State) : Ends (pollInterrupts s) (fun _ => True) BusAbort never := by
  rcases pollInterrupts_cases s with ⟨h, -⟩ | ⟨l, -, -, h⟩
  · rw [h]; trivial
  · rw [h]
    exact (takeInterrupt_ends l _).mono (fun _ _ => trivial) (fun _ hr => hr.busAbort) fun _ => id

/-! ## The peripheral phase -/

/-- An action of a device's `Step` keeps what no operation of a step changes, or ends in a bus fault (R236). -/
theorem runAction_ends (act : StepAction) (s : State) :
    Ends (runAction act s) (fun v => s.Kept v.2) BusAbort never := by
  cases act with
  | request l => exact ⟨⟨rfl, rfl, rfl⟩, rfl, rfl, id, fun _ => rfl, fun _ => rfl⟩
  | read a => exact (read8_ends a s).mono (fun _ h => h.1.kept) (fun _ h => h.busAbort) fun _ => id
  | write a v =>
    exact (write8_ends a v s).andThen (fun _ h => h.1.kept) (fun _ h => h.busAbort) fun _ => id

theorem runActions_ends (n i : Nat) (s : State) : Ends (runActions n i s) s.Kept BusAbort never := by
  induction n generalizing s with
  | zero => exact .refl s
  | succ n ih =>
    simp only [runActions]
    split
    · exact .refl s
    · refine (runAction_ends _ s).andThen (fun v hv => ?_) (fun _ => id) fun _ => id
      split
      · exact hv
      · next d _ =>
        have hd := (v.2.accessed_setDeviceState i (Config.deviceStepResume i d.st v.1)).kept
        exact (ih _).mono (fun t ht => (hv.trans hd).trans ht) (fun _ => id) fun _ => id

theorem stepDevice_ends (n i : Nat) (s : State) : Ends (stepDevice n i s) s.Kept BusAbort never := by
  unfold stepDevice
  split
  · exact .refl s
  · exact (runActions_ends _ i _).mono (fun _ ht => (s.accessed_setDeviceState i _).kept.trans ht) (fun _ => id)
      fun _ => id

theorem stepDevices_ends (places : List Nat) (n : Nat) (s : State) :
    Ends (stepDevices places n s) s.Kept BusAbort never := by
  induction places generalizing s with
  | nil => exact .refl s
  | cons i rest ih =>
    exact (stepDevice_ends n i s).andThen
      (fun s1 h1 => (ih s1).mono (fun _ h => h1.trans h) (fun _ => id) fun _ => id) (fun _ => id) fun _ => id

/-- The peripheral phase keeps what no operation of a step changes, or ends in a bus fault. -/
theorem peripheralPhase_ends (s : State) : Ends (peripheralPhase s) s.Kept BusAbort never :=
  stepDevices_ends s.stepOrder s.cycles s

theorem step_of_faulted {s : State} (h : s.faulted = true) : step s = .fault (.stuckAfterFault s) := by
  simp [step, h]

/-- A step of a state that has not faulted ends in one of the two faults, or in the refusal of STOP, if it does not
complete. -/
theorem step_ends {s : State} (h : s.faulted = false) :
    Ends (step s) (fun _ => True) HardwareFault (RefusedByStop s.config) := by
  have hc : s.promoteEI.config = s.config := s.promoteEI_kept.setup.2.2
  have hstep : step s = andThen (andThen (instructionPhase s.promoteEI) pollInterrupts) peripheralPhase := by
    simp [step, cpuStep, h]
  have hcpu : Ends (andThen (instructionPhase s.promoteEI) pollInterrupts) (fun _ => True) HardwareFault
      (RefusedByStop s.config) :=
    (hc ▸ instructionPhase_ends s.promoteEI).andThen
      (fun t _ => (pollInterrupts_aborts t).mono (fun _ => id) (fun _ => .inr) fun _ => False.elim)
      (fun _ => id) fun _ => id
  rw [hstep]
  exact hcpu.andThen
    (fun t _ => (peripheralPhase_ends t).mono (fun _ _ => trivial) (fun _ => .inr) fun _ => False.elim)
    (fun _ => id) fun _ => id

theorem step_fault {s : State} {r : Fault} (h : s.faulted = false) (hr : step s = .fault r) : HardwareFault r := by
  have := step_ends h
  rwa [hr] at this

theorem step_refused {s : State} {r : Refusal} (hr : step s = .refused r) : RefusedByStop s.config r := by
  cases h : s.faulted with
  | true => cases (step_of_faulted h).symm.trans hr
  | false =>
    have := step_ends h
    rwa [hr] at this

/-! ## The moves of the host -/

theorem hostMove_of_faulted (m : HostMove) {s : State} (h : s.faulted = true) :
    hostMove m s = if m = .reset then .ok (.nothing, resetConsole s) else if m = .stop then .ok (.nothing, s)
      else .error .afterFault := by
  cases m <;> simp [hostMove, h]

/-- A move that `unlessFaulted` lets through is made. -/
theorem unlessFaulted_ok {s : State} {move : Except HostError (HostAnswer × State)} {a : HostAnswer × State}
    (h : unlessFaulted s move = .ok a) : move = .ok a := by
  unfold unlessFaulted at h
  split at h
  · cases h
  · exact h

/-- Attaching a handler appends to the registry and counts the handle (20_memory.md R41). -/
theorem hostAttach_ok {first last : Word} {h : Handler} {s t : State} {answer : HostAnswer}
    (ht : hostAttach first last h s = .ok (answer, t)) :
    ∃ regs n, t = { s with registry := regs, nextHandle := n } := by
  unfold hostAttach addHandler at ht
  split at ht
  · next hok =>
    split at hok
    · cases hok; cases ht; exact ⟨_, _, rfl⟩
    · cases hok
  · cases ht

/-- The moves between steps write the registry, its counter and IF, no more. -/
theorem hostMove_writes {s t : State} {m : HostMove} {answer : HostAnswer} (h : hostMove m s = .ok (answer, t))
    (hreset : m ≠ .reset) (hboot : m ≠ .loadPostBoot) (hstep : m ≠ .step) :
    ∃ regs n ifReg, t = { s with registry := regs, nextHandle := n, ifReg := ifReg } := by
  cases m with
  | reset => exact absurd rfl hreset
  | loadPostBoot => exact absurd rfl hboot
  | step => exact absurd rfl hstep
  | attach first last hd =>
    obtain ⟨regs, n, rfl⟩ := hostAttach_ok (unlessFaulted_ok h)
    exact ⟨regs, n, s.ifReg, rfl⟩
  | detach handle => cases unlessFaulted_ok h; exact ⟨_, _, _, rfl⟩
  | request l => cases unlessFaulted_ok h; exact ⟨_, _, _, rfl⟩
  | stop => cases h; exact ⟨_, _, _, rfl⟩

end Machine
end Sys2Proof

open Sys2Proof Sys2Proof.Machine

/-- Settles O30, by what a step can end in (`step_ends`) and what the moves between steps write (`hostMove_writes`). -/
theorem faultsAreFinal : Obligations.FaultsAreFinal := by
  refine ⟨fun s => step_of_faulted, fun s r hr => ?_, fun s r h hr => ?_, fun s r => step_refused,
    fun s m => hostMove_of_faulted m, fun s t m answer h h1 h2 h3 => ?_⟩
  · cases h : s.faulted with
    | true => cases (step_of_faulted h).symm.trans hr; exact h
    | false => exact (step_fault h hr).faulted
  · rcases step_fault h hr with ⟨pc0, b, t, rfl⟩ | ⟨a, kind, v, handle, t, rfl⟩
    · exact .inl ⟨rfl, pc0, b, _, rfl⟩
    · exact .inr ⟨rfl, a, kind, v, handle, _, rfl⟩
  · obtain ⟨regs, n, ifReg, rfl⟩ := hostMove_writes h h1 h2 h3
    exact ⟨by simp [State.sameCpu], rfl, rfl, rfl, rfl⟩
end

section
/-! The bus (20_memory.md): handlers in turn, one access, plain memory, the stack, and the registry. -/

namespace Sys2Proof.Machine

/-! ## Handlers in turn -/

/-- `Read8` goes on past the handlers that pass, with the state they leave. -/
theorem readVia_passes {a : Word} {before : List Registration} {s t : State} (h : ReadPasses a before s t)
    (rest : List Registration) : readVia (before ++ rest) a s = readVia rest a t := by
  induction h with
  | done s => rfl
  | outside hc _ ih => simpa [readVia, hc] using ih
  | pass hc hp _ ih => simpa [readVia, hc, hp] using ih

/-- `Write8` goes on past the handlers that pass, with the state they leave. -/
theorem writeVia_passes {a : Word} {v : Byte} {before : List Registration} {s t : State}
    (h : WritePasses a v before s t) (rest : List Registration) :
    writeVia (before ++ rest) a v s = writeVia rest a v t := by
  induction h with
  | done s => rfl
  | outside hc _ ih => simpa [writeVia, hc] using ih
  | pass hc hp _ ih => simpa [writeVia, hc, hp] using ih

theorem read8_passes {a : Word} {before rest : List Registration} {s t : State} (hs : s.registry = before ++ rest)
    (h : ReadPasses a before s t) : read8 a s = readVia rest a t := by
  rw [read8, hs, readVia_passes h]

theorem write8_passes {a : Word} {v : Byte} {before rest : List Registration} {s t : State}
    (hs : s.registry = before ++ rest) (h : WritePasses a v before s t) : write8 a v s = writeVia rest a v t := by
  rw [write8, hs, writeVia_passes h]

/-- Handlers leave the backing array alone. -/
theorem WritePasses.mem {a : Word} {v : Byte} {regs : List Registration} {s t : State} (h : WritePasses a v regs s t) :
    t.mem = s.mem := by
  induction h with
  | done s => rfl
  | outside _ _ ih => exact ih
  | @pass r _ s s1 _ _ hp _ ih =>
    have hm := (r.handler.onWrite_accessed a v s).2.1
    rw [hp] at hm
    exact ih.trans hm

/-- A read that a handler aborts, those before it having passed (log entry 8). -/
theorem read8_abort {a : Word} {before after : List Registration} {r : Registration} {s t u : State}
    (hs : s.registry = before ++ r :: after) (hc : r.covers a = true) (hp : ReadPasses a before s t)
    (ho : r.handler.onRead a t = (.abort, u)) :
    read8 a s = .fault (.illegalBusAccess a .read none r.handle { t with faulted := true }) := by
  rw [read8_passes hs hp]
  simp [readVia, hc, ho, raiseBusFault, State.markFaulted]

/-- A write that a handler aborts, those before it having passed (log entry 8). -/
theorem write8_abort {a : Word} {v : Byte} {before after : List Registration} {r : Registration} {s t u : State}
    (hs : s.registry = before ++ r :: after) (hc : r.covers a = true) (hp : WritePasses a v before s t)
    (ho : r.handler.onWrite a v t = (.abort, u)) :
    write8 a v s = .fault (.illegalBusAccess a .write (some v) r.handle { t with faulted := true }) := by
  rw [write8_passes hs hp]
  simp [writeVia, hc, ho, raiseBusFault, State.markFaulted]

/-! ## One access -/

theorem read8_next {a : Word} {w : Byte} {s t : State} (h : read8 a s = .next (w, t)) :
    s.Accessed t ∧ t.mem = s.mem ∧ t.ieReg = s.ieReg ∧ t.ifReg = s.ifReg := by
  have := read8_ends a s
  rwa [h] at this

theorem write8_next {a : Word} {v : Byte} {s t : State} (h : write8 a v s = .next t) : Wrote s a t := by
  have := write8_ends a v s
  rwa [h] at this

theorem read8_fault {a : Word} {s : State} {r : Fault} (h : read8 a s = .fault r) : BusFault s a .read none r := by
  have := read8_ends a s
  rwa [h] at this

theorem write8_fault {a : Word} {v : Byte} {s : State} {r : Fault} (h : write8 a v s = .fault r) :
    BusFault s a .write (some v) r := by
  have := write8_ends a v s
  rwa [h] at this

theorem read8_not_refused (a : Word) (s : State) (r : Refusal) : read8 a s ≠ .refused r := by
  intro h
  have := read8_ends a s
  rwa [h] at this

theorem write8_not_refused (a : Word) (v : Byte) (s : State) (r : Refusal) : write8 a v s ≠ .refused r := by
  intro h
  have := write8_ends a v s
  rwa [h] at this

/-- What a bus fault says of the state it leaves (60_exceptions.md R207). -/
theorem BusFault.frame {s : State} {a : Word} {kind : AccessKind} {v : Option Byte} {r : Fault}
    (h : BusFault s a kind v r) : ∃ handle t, r = .illegalBusAccess a kind v handle { t with faulted := true } ∧
      s.sameCpu t ∧ s.sameSetup t ∧ t.mem = s.mem ∧ t.ieReg = s.ieReg ∧ t.ifReg = s.ifReg := by
  obtain ⟨handle, t, rfl, ha, hm, he, hf⟩ := h
  exact ⟨handle, t, rfl, ha.cpu, ha.kept.setup, hm, he, hf⟩

theorem Wrote.sameBytesBut {s t : State} {a : Word} (h : Wrote s a t) : s.sameBytesBut t [a] :=
  fun x hx => h.2.1 x (by simpa using hx)

/-! ## Plain memory -/

/-- Two bytes stored at two addresses are read back, and no other byte is changed. -/
theorem State.peek_poke_poke {s : State} {a b : Word} (v w : Byte) (hm : Memory.wf s.mem = true) (hab : a ≠ b) :
    ((s.poke a v).poke b w).peek a = v ∧ ((s.poke a v).poke b w).peek b = w ∧
      s.sameBytesBut ((s.poke a v).poke b w) [a, b] := by
  refine ⟨?_, State.peek_poke_self _ b w (Memory.write_wf a v hm), fun x hx => ?_⟩
  · rw [State.peek_poke_ne _ w hab, State.peek_poke_self s a v hm]
  · obtain ⟨hxa, hxb⟩ : x ≠ a ∧ x ≠ b := by simpa using hx
    rw [State.peek_poke_ne _ w hxb, State.peek_poke_ne s v hxa]

theorem State.plainAt_poke (s : State) (a b : Word) (v : Byte) : (s.poke b v).plainAt a = s.plainAt a :=
  State.plainAt_of_registry (State.poke_registry s b v) a

/-- A 16-bit write of plain memory stores the low byte first (20_memory.md R48). -/
theorem write16_plain {s : State} {a : Word} (v : Word) (h1 : s.plainAt a = true)
    (h2 : s.plainAt (a + 1#16) = true) :
    write16 a v s = .next ((s.poke a (loByte v)).poke (a + 1#16) (hiByte v)) := by
  rw [write16, write8_plain _ h1, andThen_next, write8_plain _ ((State.plainAt_poke s _ a _).trans h2)]

/-- A 16-bit read of plain memory joins the two bytes, low byte first (20_memory.md R47). -/
theorem read16_plain {s : State} {a : Word} (h1 : s.plainAt a = true) (h2 : s.plainAt (a + 1#16) = true) :
    read16 a s = .next (joinBytes (s.peek (a + 1#16)) (s.peek a), s) := by
  rw [read16, read8_plain h1, andThen_next, read8_plain h2, andThen_next]

/-! ## The stack -/

theorem State.peek_withSp (s : State) (k x : Word) : ({ s with sp := k } : State).peek x = s.peek x := rfl

/-- `sp` is decremented before the access of a push (20_memory.md R51). -/
theorem pushByte_eq (v : Byte) (s : State) :
    pushByte v s = write8 (s.sp - 1#16) v { s with sp := s.sp - 1#16 } := by
  simp only [pushByte, State.moveSp, BitVec.sub_eq_add_neg]

theorem push16_eq (v : Word) (s : State) :
    push16 v s = andThen (write8 (s.sp - 1#16) (hiByte v) { s with sp := s.sp - 1#16 }) fun s1 =>
      write8 (s1.sp - 1#16) (loByte v) { s1 with sp := s1.sp - 1#16 } := by
  simp only [push16, pushByte_eq]

theorem pop16_eq (s : State) :
    pop16 s = andThen (read8 s.sp s) fun lo =>
      andThen (read8 (lo.2.sp + 1#16) { lo.2 with sp := lo.2.sp + 1#16 }) fun hi =>
      .next (hi.1 ++ lo.1, { hi.2 with sp := hi.2.sp + 1#16 }) := by
  simp only [pop16, popByte, andThen_assoc, andThen_next]
  rfl

/-! ## The registry -/

/-- In a well-formed registry every handle lies in the bounds. -/
theorem handle_bounds {lo next : Nat} {regs : List Registration} (h : registryWfFrom lo next regs = true) :
    lo ≤ next ∧ ∀ r ∈ regs, lo ≤ r.handle ∧ r.handle < next := by
  induction regs generalizing lo with
  | nil => simpa [registryWfFrom] using h
  | cons r rest ih =>
    simp only [registryWfFrom, Bool.and_eq_true, decide_eq_true_eq] at h
    obtain ⟨⟨hlo, -⟩, hrest⟩ := h
    obtain ⟨hnext, hin⟩ := ih hrest
    refine ⟨by omega, fun q hq => ?_⟩
    rcases List.mem_cons.mp hq with rfl | hq
    · omega
    · have := hin q hq
      omega

/-- An ordered region appended under the counter's handle keeps the registry well formed. -/
theorem registryWfFrom_append {lo next : Nat} {regs : List Registration} (h : registryWfFrom lo next regs = true)
    {r : Registration} (hr : r.handle = next) (ho : r.first.toNat ≤ r.last.toNat) :
    registryWfFrom lo (next + 1) (regs ++ [r]) = true := by
  induction regs generalizing lo with
  | nil => simpa [registryWfFrom, hr, ho] using h
  | cons q rest ih =>
    simp only [registryWfFrom, Bool.and_eq_true, decide_eq_true_eq, List.cons_append] at h ⊢
    exact ⟨h.1, ih h.2⟩

theorem addHandler_of_le {first last : Word} (h : Handler) (s : State) (ho : first.toNat ≤ last.toNat) :
    addHandler first last h s = .ok (s.nextHandle,
      { s with
        registry := s.registry ++ [{ handle := s.nextHandle, first := first, last := last, handler := h }]
        nextHandle := s.nextHandle + 1 }) := if_pos ho

theorem addHandler_of_lt {first last : Word} (h : Handler) (s : State) (ho : last.toNat < first.toNat) :
    addHandler first last h s = .error (.badRegion first last) := if_neg (by omega)

theorem removeHandler_of_unknown {n : Nat} {s : State} (h : ∀ r ∈ s.registry, r.handle ≠ n) :
    removeHandler n s = s := by
  have : (s.registry.filter fun r => decide (r.handle ≠ n)) = s.registry :=
    List.filter_eq_self.mpr fun r hr => decide_eq_true (h r hr)
  rw [removeHandler, this]

/-- Removing what was just registered restores the registry (20_memory.md R42). -/
theorem removeHandler_appended {n : Nat} {s : State} (h : ∀ r ∈ s.registry, r.handle ≠ n) {r : Registration}
    (hr : r.handle = n) (next : Nat) :
    removeHandler n { s with registry := s.registry ++ [r], nextHandle := next } = { s with nextHandle := next } := by
  have : ((s.registry ++ [r]).filter fun r => decide (r.handle ≠ n)) = s.registry := by
    rw [List.filter_append, List.filter_eq_self.mpr fun r hr => decide_eq_true (h r hr)]
    simp [hr]
  simp only [removeHandler, this]

end Sys2Proof.Machine

open Sys2Proof Sys2Proof.Machine

/-- Settles O12: `Read8` goes on past the handlers that pass (`read8_passes`), and the next one answers. -/
theorem readTakesFirstAnswer : Obligations.ReadTakesFirstAnswer := by
  refine fun s t a => ⟨fun h => ?_, fun before after r hs hp hc => ⟨fun v u ho => ?_, fun u ho => ?_⟩⟩
  · exact read8_passes (List.append_nil _).symm h
  · rw [read8_passes hs hp]
    simp [readVia, hc, ho]
  · exact ⟨_, read8_abort hs hc hp ho, rfl⟩

/-- Settles O13: `Write8` goes on past the handlers that pass (`write8_passes`), none of which writes the backing array
(`WritePasses.mem`), and the next one ends the write. -/
theorem writeTakesFirstAnswer : Obligations.WriteTakesFirstAnswer := by
  refine fun s t a v => ⟨fun h => ?_, fun before after r hs hp hc => ⟨fun u ho => ⟨?_, ?_⟩, fun v' u ho => ?_,
    fun u ho => ?_⟩⟩
  · exact write8_passes (List.append_nil _).symm h
  · rw [write8_passes hs hp]
    simp [writeVia, hc, ho]
  · have hm := (r.handler.onWrite_accessed a v t).2.1
    rw [ho] at hm
    exact hm.trans hp.mem
  · rw [write8_passes hs hp]
    simp [writeVia, hc, ho, State.poke]
  · exact ⟨_, write8_abort hs hc hp ho, rfl, hp.mem⟩

/-- Settles O15, by everything `Read8` and `Write8` can do (`read8_ends`, `write8_ends`) and the abort of a handler that
is reached (`read8_abort`, `write8_abort`). -/
theorem busAccessFrame : Obligations.BusAccessFrame := by
  refine fun s a v => ⟨fun w t h => ?_, fun t h => ?_, fun r h => (read8_fault h).frame,
    fun r h => (write8_fault h).frame, read8_not_refused a s, write8_not_refused a v s,
    fun before after r t u hs hc => ⟨read8_abort hs hc, write8_abort hs hc⟩⟩
  · obtain ⟨ha, hm, he, hf⟩ := read8_next h
    exact ⟨ha.cpu, ha.kept.setup, hm, he, hf, ha.cycles⟩
  · obtain ⟨ha, -, he, hf⟩ := write8_next h
    exact ⟨ha.cpu, ha.kept.setup, (write8_next h).sameBytesBut, he, hf, ha.cycles⟩

/-- Settles O16: an access of plain memory is an access of the backing array (`read8_plain`, `write8_plain`). -/
theorem plainMemoryRoundTrip : Obligations.PlainMemoryRoundTrip := by
  refine fun s a ha hm => ⟨read8_plain ha, fun v => ?_, fun hb v => ?_⟩
  · refine ⟨s.poke a v, write8_plain v ha, rfl, Memory.write_wf a v hm, ?_, fun x hx => ?_⟩
    · rw [read8_plain ((State.plainAt_poke s a a v).trans ha), State.peek_poke_self s a v hm]
    · exact State.peek_poke_ne s v (by simpa using hx)
  · have hne : a ≠ a + 1#16 := by bv_omega
    obtain ⟨hlo, hhi, hrest⟩ := State.peek_poke_poke (loByte v) (hiByte v) hm hne
    refine ⟨_, write16_plain v ha hb, rfl, ?_, hlo, hhi, hrest⟩
    rw [read16_plain (by simpa only [State.plainAt_poke] using ha) (by simpa only [State.plainAt_poke] using hb),
      hlo, hhi, joinBytes_hi_lo]

/-- Settles O17, by the bounds of a well-formed registry's handles (`handle_bounds`). -/
theorem handlersAddedAndRemoved : Obligations.HandlersAddedAndRemoved := by
  refine fun s first last h => ⟨addHandler_of_le h s, addHandler_of_lt h s, fun n => removeHandler_of_unknown,
    fun n => ⟨rfl, List.filter_sublist, fun r hr => ?_⟩, fun hwf => ?_⟩
  · simp [removeHandler, hr]
  · obtain ⟨-, hin⟩ := handle_bounds hwf
    refine ⟨fun r hr => (hin r hr).2, fun n t ht => ?_⟩
    rcases Nat.lt_or_ge last.toNat first.toNat with ho | ho
    · cases (addHandler_of_lt h s ho).symm.trans ht
    · cases (addHandler_of_le h s ho).symm.trans ht
      exact ⟨registryWfFrom_append hwf rfl ho, removeHandler_appended (fun r hr => (hin r hr).2.ne) rfl _⟩

/-- Settles O18, by the two accesses of a push and of a pop (`push16_eq`, `pop16_eq`). -/
theorem stackOrder : Obligations.StackOrder := by
  refine fun s v => ⟨?_, fun lo s1 h1 hi s2 h2 => ?_, fun r h1 => ?_, fun lo s1 r h1 h2 => ?_⟩
  · rw [push16_eq]
    exact ⟨fun s1 h1 => h1.symm ▸ ⟨fun _ => id, fun _ => id⟩, fun r h1 => h1.symm ▸ rfl⟩
  · rw [pop16_eq, h1, andThen_next, h2, andThen_next]
  · rw [pop16_eq, h1, andThen_fault]
  · rw [pop16_eq, h1, andThen_next, h2, andThen_fault]

/-- Settles O19, by a push onto plain memory and a pop from it (`push16_plain`, `pop16_plain`). -/
theorem popUndoesPush : Obligations.PopUndoesPush := by
  intro s v hm h1 h2
  have hne : s.sp - 1#16 ≠ s.sp - 2#16 := by bv_omega
  have hback : s.sp - 2#16 + 1#16 = s.sp - 1#16 := by bv_omega
  have hsp : s.sp - 2#16 + 2#16 = s.sp := by bv_omega
  obtain ⟨hhi, hlo, hrest⟩ := State.peek_poke_poke (hiByte v) (loByte v) hm hne
  refine ⟨_, push16_plain v h1 h2, rfl, hlo, hhi, hrest, ?_⟩
  rw [pop16_plain h2 (hback ▸ h1)]
  simp only [hback, hsp, State.peek_withSp, hhi, hlo, joinBytes_hi_lo]
end

section
/-! What an instruction stores (20_memory.md R46, R51), once for all instructions (`exec_stores`): the backing bytes and
the controller's registers it may change, with what no operation of a step changes. -/

namespace Sys2Proof.Machine

/-! ## Outside the CPU -/

/-- The parts of the state outside the CPU, with the record of a fault: those that only a bus access of an instruction
reaches, or nothing. -/
structure Outside where
  mem : Memory
  ieReg : BitVec 5
  ifReg : BitVec 5
  registry : List Registration
  nextHandle : Nat
  devices : List Device
  config : Config
  faulted : Bool

/-- What is outside the CPU of a state. -/
def State.outside (s : State) : Outside where
  mem := s.mem
  ieReg := s.ieReg
  ifReg := s.ifReg
  registry := s.registry
  nextHandle := s.nextHandle
  devices := s.devices
  config := s.config
  faulted := s.faulted

@[simp] theorem State.setR_outside (s : State) (r : Reg8) (v : Byte) : (s.setR r v).outside = s.outside := by
  simp [State.outside]
@[simp] theorem State.setF_outside (s : State) (g : Flags) : (s.setF g).outside = s.outside := rfl
@[simp] theorem State.setPc_outside (s : State) (v : Word) : (s.setPc v).outside = s.outside := rfl
@[simp] theorem State.charge_outside (s : State) (n : Nat) : (s.charge n).outside = s.outside := rfl
@[simp] theorem State.setHL_outside (s : State) (v : Word) : (s.setHL v).outside = s.outside := rfl
@[simp] theorem State.moveHL_outside (s : State) (k : Word) : (s.moveHL k).outside = s.outside := rfl
@[simp] theorem State.moveSp_outside (s : State) (k : Word) : (s.moveSp k).outside = s.outside := rfl
@[simp] theorem State.advance_outside (s : State) (n : Nat) : (s.advance n).outside = s.outside := rfl
@[simp] theorem State.applyAlu_outside (s : State) (op : Alu) (v : Byte) : (s.applyAlu op v).outside = s.outside := rfl
@[simp] theorem State.setPair_outside (s : State) (p : Pair) (v : Word) : (s.setPair p v).outside = s.outside := by
  simp [State.outside]
@[simp] theorem State.setStackPair_outside (s : State) (p : StackPair) (v : Word) :
    (s.setStackPair p v).outside = s.outside := by
  simp [State.outside]

/-! ## Stores -/

/-- From `s` to `t` what no operation of a step changes is kept, and nothing is stored but at `addrs`. -/
structure State.Stored (addrs : List Word) (s t : State) : Prop where
  kept : s.Kept t
  bytes : s.sameBytesBut t addrs
  ieReg : ieAddress ∉ addrs → t.ieReg = s.ieReg
  ifReg : ifAddress ∉ addrs → t.ifReg = s.ifReg

/-- What changes the CPU alone stores nothing. -/
theorem State.stored_of_outside {s t : State} (h : t.outside = s.outside) (addrs : List Word) : s.Stored addrs t := by
  simp only [State.outside, Outside.mk.injEq] at h
  obtain ⟨hmem, hie, hif, hreg, hnext, hdev, hconf, hfault⟩ := h
  exact
    { kept := ⟨⟨hreg, hnext, hconf⟩, by rw [hdev], hfault, by rw [hmem]; exact id,
        fun _ => State.peek_of_mem hmem _, fun _ => State.peek_of_mem hmem _⟩
      bytes := fun x _ => State.peek_of_mem hmem x
      ieReg := fun _ => hie
      ifReg := fun _ => hif }

theorem State.Stored.mono {l m : List Word} {s t : State} (h : s.Stored l t) (hs : l ⊆ m) : s.Stored m t :=
  ⟨h.kept, fun x hx => h.bytes x fun hl => hx (hs hl), fun hx => h.ieReg fun hl => hx (hs hl),
    fun hx => h.ifReg fun hl => hx (hs hl)⟩

theorem State.Stored.trans {l : List Word} {s t u : State} (h : s.Stored l t) (k : t.Stored l u) : s.Stored l u :=
  ⟨h.kept.trans k.kept, fun x hx => (k.bytes x hx).trans (h.bytes x hx), fun hx => (k.ieReg hx).trans (h.ieReg hx),
    fun hx => (k.ifReg hx).trans (h.ifReg hx)⟩

/-- Where the operation answers, it has stored at `addrs` at most; `left` is the state within its answer. -/
abbrev StoresVal {α : Type} (s : State) (addrs : List Word) (left : α → State) (o : Host.Outcome α Fault Refusal) :
    Prop :=
  Ends o (fun a => s.Stored addrs (left a)) (fun _ => True) fun _ => True

/-- The same of an operation that answers the next state alone. -/
abbrev Stores (s : State) (addrs : List Word) (o : Out) : Prop := StoresVal s addrs id o

theorem StoresVal.mono {α : Type} {s : State} {l m : List Word} {left : α → State} {o : Host.Outcome α Fault Refusal}
    (h : StoresVal s l left o) (hs : l ⊆ m) : StoresVal s m left o :=
  Ends.mono h (fun _ ht => ht.mono hs) (fun _ => id) fun _ => id

/-- One operation after another stores what the two store. -/
theorem StoresVal.andThen {α β : Type} {s : State} {l : List Word} {left : α → State} {left' : β → State}
    {o : Host.Outcome α Fault Refusal} {k : α → Host.Outcome β Fault Refusal} (h : StoresVal s l left o)
    (hk : ∀ a, StoresVal (left a) l left' (k a)) : StoresVal s l left' (andThen o k) :=
  Ends.andThen h (fun a ha => Ends.mono (hk a) (fun _ hb => ha.trans hb) (fun _ => id) fun _ => id) (fun _ => id)
    fun _ => id

/-- An answer that changes the CPU alone stores nothing. -/
theorem StoresVal.next {s t : State} {l : List Word} (h : t.outside = s.outside) : Stores s l (.next t) :=
  State.stored_of_outside h l

theorem read8_stores (a : Word) (s : State) (l : List Word) : StoresVal s l Prod.snd (read8 a s) :=
  (read8_ends a s).mono
    (fun _ h => ⟨h.1.kept, fun x _ => State.peek_of_mem h.2.1 x, fun _ => h.2.2.1, fun _ => h.2.2.2⟩)
    (fun _ _ => trivial) fun _ _ => trivial

theorem write8_stores (a : Word) (v : Byte) (s : State) : Stores s [a] (write8 a v s) :=
  (write8_ends a v s).mono
    (fun _ ⟨ha, hb, he, hf⟩ => ⟨ha.kept, fun x hx => hb x (by simpa using hx),
      fun hx => he fun h => hx (by simp [h]), fun hx => hf fun h => hx (by simp [h])⟩)
    (fun _ _ => trivial) fun _ _ => trivial

theorem write16_stores (a v : Word) (s : State) : Stores s [a, a + 1#16] (write16 a v s) :=
  ((write8_stores a _ s).mono (by simp)).andThen fun s1 => (write8_stores (a + 1#16) _ s1).mono (by simp)

theorem push16_stores (v : Word) (s : State) : Stores s s.pushAddresses (push16 v s) := by
  refine (push16_ends v s).mono (fun t ⟨ha, hb, he, hf⟩ => ?_) (fun _ _ => trivial) fun _ _ => trivial
  have out {x : Word} (hx : x ∉ s.pushAddresses) : x ≠ s.sp - 1#16 ∧ x ≠ s.sp - 2#16 := by
    simpa [State.pushAddresses] using hx
  exact
    { kept := (s.kept_moveSp _).trans ha.kept
      bytes := fun x hx => hb x (out hx).1 (out hx).2
      ieReg := fun hx => he (out hx).1.symm (out hx).2.symm
      ifReg := fun hx => hf (out hx).1.symm (out hx).2.symm }

theorem pop16_stores (s : State) (l : List Word) : StoresVal s l Prod.snd (pop16 s) :=
  (pop16_ends s).mono
    (fun _ h => ⟨(s.kept_moveSp _).trans h.1.kept, fun x _ => State.peek_of_mem h.2.1 x, fun _ => h.2.2.1,
      fun _ => h.2.2.2⟩)
    (fun _ _ => trivial) fun _ _ => trivial

/-! ## The shared operations -/

theorem loadR_stores (dst : Reg8) (a : Word) (c : Nat) (s : State) (l : List Word) : Stores s l (loadR dst a c s) :=
  (read8_stores a s l).andThen fun _ => .next (by simp)

theorem store_stores (a : Word) (v : Byte) (c : Nat) (s : State) : Stores s [a] (store a v c s) :=
  (write8_stores a v s).andThen fun _ => .next rfl

theorem loadAMoveHL_stores (k : Word) (s : State) (l : List Word) : Stores s l (loadAMoveHL k s) :=
  (read8_stores _ s l).andThen fun _ => .next rfl

theorem storeAMoveHL_stores (k : Word) (s : State) : Stores s [s.hl] (storeAMoveHL k s) :=
  (write8_stores _ _ s).andThen fun _ => .next rfl

theorem storeSp_stores (a : Word) (s : State) : Stores s [a, a + 1#16] (storeSp a s) :=
  (write16_stores a _ s).andThen fun _ => .next rfl

theorem pushPair_stores (p : StackPair) (s : State) : Stores s s.pushAddresses (pushPair p s) :=
  (push16_stores _ s).andThen fun _ => .next rfl

theorem popPair_stores (p : StackPair) (s : State) (l : List Word) : Stores s l (popPair p s) :=
  (pop16_stores s l).andThen fun _ => .next (by simp)

theorem aluM_stores (op : Alu) (s : State) (l : List Word) : Stores s l (aluM op s) :=
  (read8_stores _ s l).andThen fun _ => .next rfl

/-- A read, a write and a change of the CPU: a form that modifies the byte at HL (43_rotate_shift_bit.md R165). -/
theorem modify_stores (s : State) (g : Byte → Byte) (k : Byte → State → State)
    (hk : ∀ b s1, (k b s1).outside = s1.outside) :
    Stores s [s.hl] (andThen (read8 s.hl s) fun v => andThen (write8 s.hl (g v.1) v.2) fun s1 => .next (k v.1 s1)) :=
  (read8_stores _ s _).andThen fun v => (write8_stores _ _ v.2).andThen fun s1 => .next (hk v.1 s1)

theorem incM_stores (s : State) : Stores s [s.hl] (incM s) :=
  modify_stores s (· + 1#8) (fun b s1 => (s1.setF (incFlags b s1.f)).charge 12) fun _ _ => rfl

theorem decM_stores (s : State) : Stores s [s.hl] (decM s) :=
  modify_stores s (· - 1#8) (fun b s1 => (s1.setF (decFlags b s1.f)).charge 12) fun _ _ => rfl

theorem rotM_stores (op : Rot) (s : State) : Stores s [s.hl] (rotM op s) :=
  modify_stores s (fun b => (op.run b s.f.c).1)
    (fun b s1 => (s1.setF (rotFlags (op.run b s.f.c).1 (op.run b s.f.c).2)).charge 16) fun _ _ => rfl

theorem modifyM_stores (g : Byte → Byte) (s : State) : Stores s [s.hl] (modifyM g s) :=
  modify_stores s g (fun _ s1 => s1.charge 16) fun _ _ => rfl

theorem testBitM_stores (b : Fin 8) (s : State) (l : List Word) : Stores s l (testBitM b s) :=
  (read8_stores _ s l).andThen fun _ => .next rfl

theorem jumpIf_stores (cc : Cond) (target : Word) (c d : Nat) (s : State) (l : List Word) :
    Stores s l (jumpIf cc target c d s) := by
  unfold jumpIf
  split <;> exact .next rfl

theorem call_stores (target : Word) (c : Nat) (s : State) : Stores s s.pushAddresses (call target c s) :=
  (push16_stores _ s).andThen fun _ => .next rfl

theorem callIf_stores (cc : Cond) (target : Word) (s : State) :
    Stores s (if cc.holds s.f then s.pushAddresses else []) (callIf cc target s) := by
  unfold callIf
  split
  · exact call_stores target 24 s
  · exact .next rfl

theorem ret_stores (c : Nat) (s : State) (l : List Word) : Stores s l (ret c s) :=
  (pop16_stores s l).andThen fun _ => .next rfl

theorem retIf_stores (cc : Cond) (s : State) (l : List Word) : Stores s l (retIf cc s) := by
  unfold retIf
  split
  · exact ret_stores 20 s l
  · exact .next rfl

theorem reti_stores (s : State) (l : List Word) : Stores s l (reti s) := by
  rw [reti, returnFromInterrupt, andThen_assoc]
  exact (pop16_stores s l).andThen fun _ => .next rfl

theorem stop_stores (s : State) (l : List Word) : Stores s l (stop s) := by
  unfold stop
  split
  · exact .next rfl
  · trivial

theorem enable_stores (s : State) (l : List Word) : Stores s l (enable s) := by
  unfold enable
  split <;> exact .next rfl

/-! ## Every instruction -/

theorem storeAddresses_ldMR (r : Reg8) (s : State) : (Instr.ldMR r).storeAddresses s = [s.hl] := by cases r <;> rfl

theorem storeAddresses_push (p : StackPair) (s : State) : (Instr.push p).storeAddresses s = s.pushAddresses := by
  cases p <;> rfl

theorem storeAddresses_rst (y : Fin 8) (s : State) : (Instr.rst y).storeAddresses s = s.pushAddresses := by
  fin_cases y <;> rfl

theorem storeAddresses_callIf (cc : Cond) (a : Word) (s : State) :
    (Instr.callIf cc a).storeAddresses s = if cc.holds s.f then s.pushAddresses else [] := by cases cc <;> rfl

theorem storeAddresses_rotM (op : Rot) (s : State) : (Instr.rotM op).storeAddresses s = [s.hl] := by cases op <;> rfl

theorem storeAddresses_resM (b : Fin 8) (s : State) : (Instr.resM b).storeAddresses s = [s.hl] := by
  fin_cases b <;> rfl

theorem storeAddresses_setM (b : Fin 8) (s : State) : (Instr.setM b).storeAddresses s = [s.hl] := by
  fin_cases b <;> rfl

/-- The addresses of the marker's row by the fields of its byte: those of a form at HL that is no BIT. -/
theorem storeAddresses_prefixCB (op2 : Byte) (s : State) : (Instr.prefixCB op2).storeAddresses s =
    if Operand8.ofCode (op2.extractLsb' 0 3) = .atHL ∧ (op2.extractLsb' 6 2).toNat ≠ 1 then [s.hl] else [] := by
  have atHL : ∀ z : BitVec 3, Operand8.ofCode z = .atHL ↔ z = 6#3 := by decide
  have bit : ∀ x : BitVec 2, x.toNat ≠ 1 ↔ x ≠ 1#2 := by decide
  simp only [atHL, bit]
  rfl

theorem prefixCB_stores (op2 : Byte) (s : State) :
    Stores s ((Instr.prefixCB op2).storeAddresses s) (exec (.prefixCB op2) s) := by
  rw [storeAddresses_prefixCB, exec_prefixCB, runPrefixed]
  generalize (op2.extractLsb' 6 2).toNat = x
  match x, Operand8.ofCode (op2.extractLsb' 0 3) with
  | 0, .reg r => exact .next (by simp)
  | 0, .atHL => exact rotM_stores _ s
  | 1, .reg r => exact .next rfl
  | 1, .atHL => exact testBitM_stores _ s _
  | 2, .reg r => exact .next (by simp)
  | 2, .atHL => exact modifyM_stores _ s
  | _ + 3, .reg r => exact .next (by simp)
  | _ + 3, .atHL => exact (modifyM_stores _ s).mono (by simp)

/-- Every instruction stores where its addresses say at most, where it answers. -/
theorem exec_stores (i : Instr) (s : State) : Stores s (i.storeAddresses s) (exec i s) := by
  induction i using Instr.byForm with
  | h_nop => exact .next rfl
  | h_ldPairN p n => rw [exec_ldPairN]; exact .next (by simp)
  | h_ld_mBC_a => exact store_stores s.bc s.rA 8 s
  | h_incPair p => rw [exec_incPair]; exact .next (by simp)
  | h_incR r => rw [exec_incR]; exact .next (by simp)
  | h_decR r => rw [exec_decR]; exact .next (by simp)
  | h_ldRN dst n => rw [exec_ldRN]; exact .next (by simp)
  | h_rlca => exact .next rfl
  | h_ld_mA16_sp a => exact storeSp_stores a s
  | h_addHL p => rw [exec_addHL]; exact .next rfl
  | h_ld_a_mBC => exact loadR_stores .a s.bc 8 s _
  | h_decPair p => rw [exec_decPair]; exact .next (by simp)
  | h_rrca => exact .next rfl
  | h_stop_n8 n => exact stop_stores s _
  | h_ld_mDE_a => exact store_stores s.de s.rA 8 s
  | h_rla => exact .next rfl
  | h_jr_e8 e => exact .next rfl
  | h_ld_a_mDE => exact loadR_stores .a s.de 8 s _
  | h_rra => exact .next rfl
  | h_jrIf cc e => rw [exec_jrIf]; exact jumpIf_stores cc _ 12 8 s _
  | h_ld_mHLinc_a => exact storeAMoveHL_stores _ s
  | h_daa => exact .next rfl
  | h_ld_a_mHLinc => exact loadAMoveHL_stores _ s _
  | h_cpl => exact .next rfl
  | h_ld_mHLdec_a => exact storeAMoveHL_stores _ s
  | h_inc_mHL => exact incM_stores s
  | h_dec_mHL => exact decM_stores s
  | h_ld_mHL_n8 n => exact store_stores s.hl n 12 s
  | h_scf => exact .next rfl
  | h_ld_a_mHLdec => exact loadAMoveHL_stores _ s _
  | h_ccf => exact .next rfl
  | h_ldRR dst r => rw [exec_ldRR]; exact .next (by simp)
  | h_ldRM dst => rw [exec_ldRM]; exact loadR_stores dst s.hl 8 s _
  | h_ldMR r => rw [exec_ldMR, storeAddresses_ldMR]; exact store_stores s.hl _ 8 s
  | h_halt => exact .next rfl
  | h_aluR op r => rw [exec_aluR]; exact .next rfl
  | h_aluM op => rw [exec_aluM]; exact aluM_stores op s _
  | h_retIf cc => rw [exec_retIf]; exact retIf_stores cc s _
  | h_pop p => rw [exec_pop]; exact popPair_stores p s _
  | h_jpIf cc a => rw [exec_jpIf]; exact jumpIf_stores cc a 16 12 s _
  | h_jp_a16 a => exact .next rfl
  | h_callIf cc a => rw [exec_callIf, storeAddresses_callIf]; exact callIf_stores cc a s
  | h_push p => rw [exec_push, storeAddresses_push]; exact pushPair_stores p s
  | h_aluN op n => rw [exec_aluN]; exact .next rfl
  | h_rst y => rw [exec_rst, storeAddresses_rst]; exact call_stores _ 16 s
  | h_ret => exact ret_stores 16 s _
  | h_prefixCB op2 => exact prefixCB_stores op2 s
  | h_call_a16 a => exact call_stores a 24 s
  | h_reti => exact reti_stores s _
  | h_ldh_mA8_a a => exact store_stores (highPage a) s.rA 12 s
  | h_ld_mC_a => exact store_stores (highPage s.rC) s.rA 8 s
  | h_add_sp_e8 e => exact .next rfl
  | h_jp_hl => exact .next rfl
  | h_ld_mA16_a a => exact store_stores a s.rA 16 s
  | h_ldh_a_mA8 a => exact loadR_stores .a (highPage a) 12 s _
  | h_ld_a_mC => exact loadR_stores .a (highPage s.rC) 8 s _
  | h_di => exact .next rfl
  | h_ld_hl_spE8 e => exact .next rfl
  | h_ld_sp_hl => exact .next rfl
  | h_ld_a_mA16 a => exact loadR_stores .a a 16 s _
  | h_ei => exact enable_stores s _
  | h_rotR op r => rw [exec_rotR]; exact .next (by simp)
  | h_rotM op => rw [exec_rotM, storeAddresses_rotM]; exact rotM_stores op s
  | h_bitR b r => rw [exec_bitR]; exact .next rfl
  | h_bitM b => rw [exec_bitM]; exact testBitM_stores b s _
  | h_resR b r => rw [exec_resR]; exact .next (by simp)
  | h_resM b => rw [exec_resM, storeAddresses_resM]; exact modifyM_stores _ s
  | h_setR b r => rw [exec_setR]; exact .next (by simp)
  | h_setM b => rw [exec_setM, storeAddresses_setM]; exact modifyM_stores _ s

theorem exec_stored {i : Instr} {s t : State} (h : exec i s = .next t) : s.Stored (i.storeAddresses s) t := by
  have := exec_stores i s
  rwa [h] at this

end Sys2Proof.Machine

open Sys2Proof Sys2Proof.Machine

/-- Settles O39, by what every instruction stores (`exec_stores`). -/
theorem storesOnlyWhereComputed : Obligations.StoresOnlyWhereComputed := by
  intro i s t h
  obtain ⟨-, hb, he, hf⟩ := exec_stored h
  exact ⟨hb, he, hf⟩
end

section
/-! What every step keeps (20_memory.md R43; 10_state.md R26, R31-R33, R36): the setup, and the invariant of the run. -/

namespace Sys2Proof.Machine

/-! ## One field of a frame -/

theorem State.sameCpu.imeScheduled {s t : State} (h : s.sameCpu t) : t.imeScheduled = s.imeScheduled := by
  obtain ⟨-, -, -, -, -, -, -, -, -, -, -, hsched, -⟩ := h
  exact hsched

theorem State.sameCpu.mode {s t : State} (h : s.sameCpu t) : t.mode = s.mode := by
  obtain ⟨-, -, -, -, -, -, -, -, -, -, -, -, hmode, -⟩ := h
  exact hmode

theorem State.kept_of_outside {s t : State} (h : t.outside = s.outside) : s.Kept t := (State.stored_of_outside h []).kept

theorem State.kept_clearRequest (s : State) (l : Line) : s.Kept (s.clearRequest l) :=
  ⟨⟨rfl, rfl, rfl⟩, rfl, rfl, id, fun _ => rfl, fun _ => rfl⟩

/-! ## The peripheral phase -/

/-- A relation that the actions of a device's `Step` and the moves of a device's state keep to (60_exceptions.md R236). -/
structure DeviceRel (R : State → State → Prop) : Prop where
  refl : ∀ s, R s s
  trans : ∀ {s t u}, R s t → R t u → R s u
  action : ∀ act s, Ends (runAction act s) (fun v => R s v.2) (fun _ => True) fun _ => True
  device : ∀ s i st, R s (s.setDeviceState i st)

/-- Where the operation answers, its next state is related to `s`. -/
abbrev Relates (R : State → State → Prop) (s : State) (o : Out) : Prop := Ends o (R s) (fun _ => True) fun _ => True

theorem DeviceRel.after {R : State → State → Prop} (hR : DeviceRel R) {s t : State} {o : Out} (h : R s t)
    (ho : Relates R t o) : Relates R s o := ho.mono (fun _ => hR.trans h) (fun _ => id) fun _ => id

theorem DeviceRel.runActions {R : State → State → Prop} (hR : DeviceRel R) (n i : Nat) (s : State) :
    Relates R s (runActions n i s) := by
  induction n generalizing s with
  | zero => exact hR.refl s
  | succ n ih =>
    simp only [Machine.runActions]
    split
    · exact hR.refl s
    · refine (hR.action _ s).andThen (fun v hv => ?_) (fun _ => id) fun _ => id
      split
      · exact hv
      · exact hR.after (hR.trans hv (hR.device v.2 i _)) (ih _)

theorem DeviceRel.stepDevice {R : State → State → Prop} (hR : DeviceRel R) (n i : Nat) (s : State) :
    Relates R s (stepDevice n i s) := by
  unfold Machine.stepDevice
  split
  · exact hR.refl s
  · exact hR.after (hR.device s i _) (hR.runActions _ i _)

theorem DeviceRel.stepDevices {R : State → State → Prop} (hR : DeviceRel R) (places : List Nat) (n : Nat)
    (s : State) : Relates R s (stepDevices places n s) := by
  induction places generalizing s with
  | nil => exact hR.refl s
  | cons i rest ih =>
    exact (hR.stepDevice n i s).andThen (fun s1 h1 => hR.after h1 (ih s1)) (fun _ => id) fun _ => id

theorem DeviceRel.peripheralPhase {R : State → State → Prop} (hR : DeviceRel R) (s : State) :
    Relates R s (peripheralPhase s) := hR.stepDevices s.stepOrder s.cycles s

theorem runAction_sameCpu (act : StepAction) (s : State) :
    Ends (runAction act s) (fun v => s.sameCpu v.2) (fun _ => True) fun _ => True := by
  cases act with
  | request l => simp [runAction, State.sameCpu]
  | read a => exact (read8_ends a s).mono (fun _ h => h.1.cpu) (fun _ _ => trivial) fun _ _ => trivial
  | write a v => exact (write8_ends a v s).andThen (fun _ h => h.1.cpu) (fun _ _ => trivial) fun _ _ => trivial

theorem deviceRel_sameCpu : DeviceRel State.sameCpu :=
  ⟨State.sameCpu.refl, State.sameCpu.trans, runAction_sameCpu, fun s i st => (s.accessed_setDeviceState i st).cpu⟩

/-- The devices leave the CPU alone (60_exceptions.md R236). -/
theorem peripheralPhase_next {s t : State} (h : peripheralPhase s = .next t) : s.Kept t ∧ s.sameCpu t := by
  have hk := peripheralPhase_ends s
  have hc := deviceRel_sameCpu.peripheralPhase s
  rw [h] at hk hc
  exact ⟨hk, hc⟩

/-! ## The phases of a CPU step -/

theorem readBytes_accessed (n : Nat) (a : Word) (s : State) :
    Ends (readBytes n a s) (fun v => s.Accessed v.2) (fun _ => True) fun _ => True := by
  induction n generalizing a s with
  | zero => exact .refl s
  | succ n ih =>
    refine (read8_ends a s).andThen (fun b hb => ?_) (fun _ _ => trivial) fun _ _ => trivial
    exact (ih (a + 1#16) b.2).andThen (fun rest hr => hb.1.trans hr) (fun _ => id) fun _ => id

/-- A fetch is bus accesses and a move of `pc` (30_encoding.md R91-R93). -/
theorem fetch_next {s t : State} {i : Instr} (h : fetch s = .next (i, t)) :
    ∃ u len, s.Accessed u ∧ t = u.advance len := by
  obtain ⟨b0, h0, h⟩ := andThen_eq_next.mp h
  have a0 : s.Accessed b0.2 := (read8_next h0).1
  split at h
  · cases h
  · next len _ =>
    obtain ⟨rest, hr, h⟩ := andThen_eq_next.mp h
    have a1 := readBytes_accessed (len - 1) (s.pc + 1#16) b0.2
    rw [hr] at a1
    split at h
    · cases h; exact ⟨rest.2, len, a0.trans a1, rfl⟩
    · next e _ => cases e <;> cases h

/-- A delayed EI is pending only under `P_EI_DELAYED`, and never while Halted (10_state.md R26, 30_encoding.md R89). -/
def State.schedules (s : State) : Prop :=
  (s.config.eiDelayed = false → s.imeScheduled = false) ∧ (s.mode = .halted → s.imeScheduled = false)

theorem State.schedules_of_not {s : State} (h : s.imeScheduled = false) : s.schedules := ⟨fun _ => h, fun _ => h⟩

theorem Instr.controlsInterrupts_cases {i : Instr} (h : i.controlsInterrupts ≠ false) :
    i = .di ∨ i = .ei ∨ i = .reti := by
  unfold Instr.controlsInterrupts at h
  split at h
  · exact .inl rfl
  · exact .inr (.inl rfl)
  · exact .inr (.inr rfl)
  · exact absurd rfl h

/-- An instruction run with no EI pending leaves one pending only if it is an EI under the delay, which does not halt. -/
theorem exec_schedules {i : Instr} {s t : State} (h : exec i s = .next t) (hs : s.imeScheduled = false)
    (hm : s.mode = .running) : t.schedules := by
  by_cases hc : i.controlsInterrupts = false
  · exact State.schedules_of_not (((exec_next h).interrupts hc).2.trans hs)
  · rcases Instr.controlsInterrupts_cases hc with rfl | rfl | rfl
    · rw [exec_di, disable] at h
      cases h
      exact State.schedules_of_not rfl
    · rw [exec_ei, enable] at h
      split at h
      · next hd =>
        cases h
        exact ⟨fun hn => absurd (hd.symm.trans hn) (by decide), fun hh => absurd (hm.symm.trans hh) (by decide)⟩
      · cases h
        exact State.schedules_of_not hs
    · rw [exec_reti, reti, returnFromInterrupt, andThen_assoc] at h
      obtain ⟨v, -, h⟩ := andThen_eq_next.mp h
      cases h
      exact State.schedules_of_not rfl

/-- The instruction phase of a step, after the promotion (30_encoding.md R88). -/
theorem instructionPhase_next {s t : State} (h : instructionPhase s = .next t) (hs : s.imeScheduled = false) :
    s.Kept t ∧ t.schedules := by
  unfold instructionPhase at h
  cases hm : s.mode with
  | halted =>
    rw [hm] at h
    cases h
    exact ⟨State.kept_of_outside (s.charge_outside _), State.schedules_of_not hs⟩
  | running =>
    rw [hm] at h
    obtain ⟨⟨i, v⟩, hf, he⟩ := andThen_eq_next.mp h
    obtain ⟨u, len, ha, rfl⟩ := fetch_next hf
    have hk : s.Kept (u.advance len) := ha.kept.trans (State.kept_of_outside (u.advance_outside len))
    exact ⟨hk.trans (exec_stored he).kept,
      exec_schedules he (ha.cpu.imeScheduled.trans hs) (ha.cpu.mode.trans hm)⟩

/-- A service leaves no EI pending (60_exceptions.md R221). -/
theorem takeInterrupt_next {l : Line} {s t : State} (h : takeInterrupt l s = .next t) :
    s.Kept t ∧ t.imeScheduled = false := by
  have ht := takeInterrupt_ends l s
  rw [h] at ht
  obtain ⟨u, ha, -, rfl⟩ := ht
  have off : s.Kept { s.disableInterrupts with mode := .running } := State.kept_of_outside rfl
  have pushed : s.Kept u := (off.trans (State.kept_moveSp _ _)).trans ha.kept
  exact ⟨pushed.trans (State.kept_of_outside rfl), ha.cpu.imeScheduled⟩

/-- The poll wakes the engine, or serves a line (60_exceptions.md R220). -/
theorem pollInterrupts_next {s t : State} (h : pollInterrupts s = .next t) (hs : s.schedules) :
    s.Kept t ∧ t.schedules := by
  rcases pollInterrupts_cases s with ⟨hp, -⟩ | ⟨l, -, -, hp⟩
  · cases hp.symm.trans h
    refine ⟨s.wake_kept, ?_⟩
    rcases s.wake_cases with hw | ⟨hm, -, hw⟩
    · rw [hw]
      exact hs
    · rw [hw]
      exact State.schedules_of_not (hs.2 hm)
  · obtain ⟨hk, hsched⟩ := takeInterrupt_next (hp.symm.trans h)
    exact ⟨(s.wake_kept.trans (s.wake.kept_clearRequest l)).trans hk, State.schedules_of_not hsched⟩

/-! ## The step -/

/-- What a step that completes leaves. -/
theorem step_next {s t : State} (h : step s = .next t) : s.faulted = false ∧ s.Kept t ∧ t.schedules := by
  cases hf : s.faulted with
  | true => cases (step_of_faulted hf).symm.trans h
  | false =>
    simp only [step, hf, cpuStep] at h
    obtain ⟨v, hcpu, hperi⟩ := andThen_eq_next.mp h
    obtain ⟨u, hinstr, hpoll⟩ := andThen_eq_next.mp hcpu
    obtain ⟨ku, su⟩ := instructionPhase_next hinstr s.promoteEI_imeScheduled
    obtain ⟨kv, sv⟩ := pollInterrupts_next hpoll su
    obtain ⟨kt, ct⟩ := peripheralPhase_next hperi
    refine ⟨rfl, ((s.promoteEI_kept.trans ku).trans kv).trans kt, ?_⟩
    rw [State.schedules, ct.imeScheduled, ct.mode, kt.setup.2.2]
    exact sv

end Sys2Proof.Machine

open Sys2Proof Sys2Proof.Machine

/-- Settles O33, by what no operation of a step changes (`State.Kept`), from phase to phase of the step (`step_next`). -/
theorem stepKeepsSetup : Obligations.StepKeepsSetup := by
  intro s t h
  obtain ⟨hf, hk, -⟩ := step_next h
  exact ⟨hk.setup, hk.kinds, hk.faulted.trans hf⟩

/-- Settles O32: the setup and the canonical form are kept by every operation of a step (`State.Kept`), and the two
clauses on the delayed EI hold from the instruction phase on, since the promotion comes before it (`step_next`). -/
theorem stepKeepsInvariant : Obligations.StepKeepsInvariant := by
  intro s t hs h
  obtain ⟨hf, hk, hsched⟩ := step_next h
  obtain ⟨hreg, hnext, -⟩ := hk.setup
  exact
    { memWf := hk.memWf hs.memWf
      controllerFirst := (State.controllerFirst_of_registry hreg).trans hs.controllerFirst
      registryWf := by rw [State.registryWf, hreg, hnext]; exact hs.registryWf
      scheduledOnlyIfDelayed := hsched.1
      haltedNotScheduled := hsched.2
      notFaulted := hk.faulted.trans hf }
end

section
/-! The decoder and the encoder (30_encoding.md): what bytes decode to, which bytes an instruction has, and its length. -/

namespace Sys2Proof

/-- The two bytes after an opcode with a 16-bit immediate are joined, the low byte first (30_encoding.md R75). -/
theorem decode_imm16 {b : Byte} {mk : Word → Instr} (h : (UNPREFIXED b).map Opcode.form = some (.imm16 mk)) (n : Word)
    (rest : List Byte) : decode (b :: loByte n :: hiByte n :: rest) = .ok (mk n, rest) := by
  obtain ⟨op, ho, hf⟩ := Option.map_eq_some_iff.mp h
  simp [decode, opcodeFromByte, ho, hf, decodeForm]

end Sys2Proof

open Sys2Proof Sys2Proof.Machine

/-- Settles O1, one case per instruction: without an operand, or with a byte, decoding computes it, whatever `rest` is; the
two bytes of a word give back the word (`decode_imm16`). -/
theorem decodeEncodeRoundTrip : Obligations.DecodeEncodeRoundTrip := by
  intro i rest h
  cases i with
  | prefixCB op2 => cases h
  | ld_bc_n16 n | ld_de_n16 n | ld_hl_n16 n | ld_sp_n16 n | ld_mA16_sp n | ld_mA16_a n | ld_a_mA16 n
  | jp_a16 n | jp_nz_a16 n | jp_z_a16 n | jp_nc_a16 n | jp_c_a16 n
  | call_a16 n | call_nz_a16 n | call_z_a16 n | call_nc_a16 n | call_c_a16 n => exact decode_imm16 rfl n rest
  | _ => rfl

namespace Sys2Proof

theorem decode_encode {i : Instr} (h : i.wellFormed = true) : decode (encode i) = .ok (i, []) := by
  simpa using decodeEncodeRoundTrip i [] h

/-! ## The prefixed instructions -/

theorem encode_prefixed (op2 : Byte) : encode (Instr.prefixed op2) = [prefixMarker, op2] := (encode_prefixCB op2).symm

theorem wellFormed_prefixed : ∀ op2 : Byte, (Instr.prefixed op2).wellFormed = true := by decide

/-- The byte after the marker names its instruction by its fields (30_encoding.md R73, R79). -/
theorem decodePrefixed_eq (op2 : Byte) (rest : List Byte) : decodePrefixed op2 rest = .ok (Instr.prefixed op2, rest) := by
  have h := decodeEncodeRoundTrip (Instr.prefixed op2) rest (wellFormed_prefixed op2)
  rwa [encode_prefixed] at h

/-! ## The entries of the unprefixed table -/

/-- The instruction of a table row with the operand `n` or `w`; of the marker, its row's own constructor. -/
def OpForm.row (form : OpForm) (n : Byte) (w : Word) : Instr :=
  match form with
  | .plain i => i
  | .imm8 mk => mk n
  | .imm16 mk => mk w
  | .marker => .prefixCB n

/-- The bytes after the opcode (30_encoding.md R74, R75, R79). -/
def OpForm.operands (form : OpForm) (n : Byte) (w : Word) : List Byte :=
  match form with
  | .plain _ => []
  | .imm8 _ => [n]
  | .imm16 _ => [loByte w, hiByte w]
  | .marker => [n]

/-- The form is that of the marker (30_encoding.md R79). -/
def OpForm.isMarker (form : OpForm) : Bool :=
  match form with
  | .marker => true
  | _ => false

/-- Each entry of the table stands at the byte that its instruction begins with, and only the marker's is the bare marker
(30_encoding.md R83). -/
theorem unprefixed_map_row (b n : Byte) (w : Word) :
    ((UNPREFIXED b).map fun op => (encode (op.form.row n w), (op.form.row n w).isBareMarker)) =
      (UNPREFIXED b).map fun op => (b :: op.form.operands n w, op.form.isMarker) := by
  obtain ⟨k⟩ := b
  fin_cases k <;> rfl

theorem row_of_entry {b : Byte} {op : Opcode} (h : UNPREFIXED b = some op) (n : Byte) (w : Word) :
    encode (op.form.row n w) = b :: op.form.operands n w ∧ (op.form.row n w).isBareMarker = op.form.isMarker := by
  simpa [h] using unprefixed_map_row b n w

/-- What an opcode form reads: its operands, and the instruction of its row, or the prefixed one of the byte read. -/
theorem decodeForm_ok {form : OpForm} {bytes rest : List Byte} {i : Instr} (h : decodeForm form bytes = .ok (i, rest)) :
    ∃ n w, bytes = form.operands n w ++ rest ∧
      (form.isMarker = false ∧ i = form.row n w ∨ form = .marker ∧ i = Instr.prefixed n) := by
  match form, bytes, h with
  | .plain _, _, h => cases h; exact ⟨0, 0, rfl, .inl ⟨rfl, rfl⟩⟩
  | .imm8 _, n :: _, h => cases h; exact ⟨n, 0, rfl, .inl ⟨rfl, rfl⟩⟩
  | .imm16 _, lo :: hi :: _, h =>
    cases h
    exact ⟨0, joinBytes hi lo, by simp [OpForm.operands], .inl ⟨rfl, rfl⟩⟩
  | .marker, b1 :: rest', h =>
    cases (decodePrefixed_eq b1 rest').symm.trans h
    exact ⟨b1, 0, rfl, .inr ⟨rfl, rfl⟩⟩

/-- What bytes that decode are: an opcode with an entry, its operands, and the rest. -/
theorem decode_ok {bytes rest : List Byte} {i : Instr} (h : decode bytes = .ok (i, rest)) :
    ∃ b op n w, UNPREFIXED b = some op ∧ bytes = b :: op.form.operands n w ++ rest ∧
      (op.form.isMarker = false ∧ i = op.form.row n w ∨ op.form = .marker ∧ i = Instr.prefixed n) := by
  cases bytes with
  | nil => cases h
  | cons b bytes =>
    simp only [decode] at h
    split at h
    · cases h
    · next op ho =>
      obtain ⟨n, w, rfl, hi⟩ := decodeForm_ok h
      exact ⟨b, op, n, w, ho, rfl, hi⟩

/-! ## The length -/

/-- The length that the first byte gives counts the opcode and its operands (30_encoding.md R82). -/
theorem lengthFromByte_of_entry {b : Byte} {op : Opcode} (h : UNPREFIXED b = some op) (n : Byte) (w : Word) :
    lengthFromByte b = some (b :: op.form.operands n w).length := by
  have table : ∀ b, lengthFromByte b = (UNPREFIXED b).map fun op => (op.form.operands 0 0).length + 1 := by decide
  have count : (op.form.operands n w).length = (op.form.operands 0 0).length := by cases op.form <;> rfl
  simp [table, h, count]

/-- Bytes that decode with nothing left are as many as the first gives. -/
theorem decode_length {bytes : List Byte} {i : Instr} (h : decode bytes = .ok (i, [])) :
    ∃ b rest, bytes = b :: rest ∧ lengthFromByte b = some bytes.length := by
  obtain ⟨b, op, n, w, ho, rfl, -⟩ := decode_ok h
  exact ⟨b, _, rfl, by rw [List.append_nil]; exact lengthFromByte_of_entry ho n w⟩

/-- The length by the lists of 30_encoding.md R82. -/
theorem lengthFromByte_eq : ∀ b : Byte, lengthFromByte b =
    if b = 0xCB#8 then some 2
    else if b ∈ undefinedBytes then none
    else if b ∈ twoByteOpcodes then some 2
    else if b ∈ threeByteOpcodes then some 3
    else some 1 := by decide

theorem unprefixed_eq_none_iff : ∀ b : Byte, UNPREFIXED b = none ↔ b ∈ undefinedBytes := by decide

theorem prefixed_ne_none (b : Byte) : PREFIXED b ≠ none := by
  intro h
  have := decodePrefixed_eq b []
  simp [decodePrefixed, opcodeFromByte, h] at this

end Sys2Proof

/-- Settles O6: the prefixed instruction of a byte is encoded as the marker and the byte, so O1 decodes the pair; the row's
constructor runs it (`runPrefixed_eq`). -/
theorem markerRunsPrefixedInstruction : Obligations.MarkerRunsPrefixedInstruction :=
  ⟨decodePrefixed_eq, runPrefixed_eq⟩

/-- Settles O2: what decodes is an opcode and its operands (`decode_ok`), and the entry of the opcode stands where the
encoder says (`row_of_entry`). -/
theorem encodeDecodeRoundTrip : Obligations.EncodeDecodeRoundTrip := by
  intro i bytes rest h
  obtain ⟨b, op, n, w, ho, rfl, hi⟩ := decode_ok h
  obtain ⟨he, hw⟩ := row_of_entry ho n w
  rcases hi with ⟨hm, rfl⟩ | ⟨hm, rfl⟩
  · exact ⟨by rw [he], by simp [Instr.wellFormed, hw, hm]⟩
  · rw [hm] at he ⊢
    exact ⟨congrArg (· ++ rest) (he.symm.trans (encode_prefixCB n)), wellFormed_prefixed n⟩

/-- Settles O4: an instruction's bytes decode with nothing left (O1), so their first byte gives their number
(`decode_length`); the bare marker's row has the two bytes of a prefixed instruction. -/
theorem lengthFromFirstByte : Obligations.LengthFromFirstByte := by
  refine ⟨lengthFromByte_eq, fun i => ?_⟩
  cases hw : i.wellFormed with
  | true => exact decode_length (decode_encode hw)
  | false =>
    cases i with
    | prefixCB op2 => exact ⟨0xCB#8, [op2], rfl, rfl⟩
    | _ => cases hw

/-- Settles O5: each word is the encoding of its instruction, which O1 decodes. -/
theorem wordsOfTheSpec : Obligations.WordsOfTheSpec :=
  have word (i : Instr) (hw : i.wellFormed = true) : decode (encode i) = .ok (i, []) := decode_encode hw
  ⟨word .ld_c_b rfl, word (.ld_a_n8 0x42#8) rfl, word (.ld_a_mA16 0xC000#16) rfl, word .push_bc rfl, word .add_a_b rfl,
    word .add_a_a rfl, word .cp_a_a rfl, word .add_hl_sp rfl, word (.add_sp_e8 0xFF#8) rfl, word .swap_a rfl,
    word .bit_7_h rfl, word .res_1_mHL rfl, word (.jp_nz_a16 0x1234#16) rfl, word .rst_08 rfl, word .halt rfl,
    word .ei rfl⟩
end

section
/-! The fetch of an instruction and the phases of a step (30_encoding.md R88-R93; 60_exceptions.md R206, R208, R235). -/

namespace Sys2Proof.Machine

/-! ## The promotion of EI -/

/-- The promotion writes IME and the delayed EI, no more (30_encoding.md R89). -/
theorem State.promoteEI_eq (s : State) :
    s.promoteEI = { s with ime := s.ime || s.imeScheduled, imeScheduled := false } := by
  cases h : s.imeScheduled with
  | true => simp [State.promoteEI, h]
  | false => rw [State.promoteEI_of_not h, Bool.or_false, ← h]

@[simp] theorem State.promoteEI_pc (s : State) : s.promoteEI.pc = s.pc := by rw [promoteEI_eq]
@[simp] theorem State.promoteEI_mode (s : State) : s.promoteEI.mode = s.mode := by rw [promoteEI_eq]
@[simp] theorem State.promoteEI_config (s : State) : s.promoteEI.config = s.config := by rw [promoteEI_eq]
@[simp] theorem State.promoteEI_registry (s : State) : s.promoteEI.registry = s.registry := by rw [promoteEI_eq]
@[simp] theorem State.promoteEI_ime (s : State) : s.promoteEI.ime = (s.ime || s.imeScheduled) := by rw [promoteEI_eq]
@[simp] theorem State.peek_promoteEI (s : State) (a : Word) : s.promoteEI.peek a = s.peek a := by rw [promoteEI_eq]; rfl

/-! ## The phases of a step -/

theorem step_of_not_faulted {s : State} (h : s.faulted = false) : step s = andThen (cpuStep s) peripheralPhase := by
  simp [step, h]

theorem cpuStep_of_halted {s : State} (h : s.mode = .halted) :
    cpuStep s = pollInterrupts (s.promoteEI.charge s.config.haltIdleCycles) := by
  simp [cpuStep, instructionPhase, h]

theorem cpuStep_of_running {s : State} (h : s.mode = .running) :
    cpuStep s = andThen (fetchDecodeExecute s.promoteEI) pollInterrupts := by
  simp [cpuStep, instructionPhase, h]

/-! ## The fetch -/

/-- Bytes that decode with nothing left are the bytes fetched, and `pc` is moved past them (30_encoding.md R91-R93). -/
theorem fetch_of_decode {s t : State} {bytes : List Byte} {i : Instr}
    (hr : readBytes bytes.length s.pc s = .next (bytes, t)) (hd : decode bytes = .ok (i, [])) :
    fetch s = .next (i, t.advance bytes.length) := by
  obtain ⟨b, operands, rfl, hlen⟩ := decode_length hd
  obtain ⟨b0, h0, hr⟩ := andThen_eq_next.mp hr
  obtain ⟨rest, h1, hr⟩ := andThen_eq_next.mp hr
  cases hr
  simp [fetch, h0, hlen, h1, hd]

theorem fetch_of_undefined {s t : State} {b : Byte} (h : read8 s.pc s = .next (b, t)) (hb : b ∈ undefinedBytes) :
    fetch s = .fault (.decodeFailure s.pc false b t.markFaulted) := by
  have hlen : lengthFromByte b = none := by
    have marker : b ≠ 0xCB#8 := fun e => absurd (e ▸ hb) (by decide)
    rw [lengthFromByte_eq, if_neg marker, if_pos hb]
  simp [fetch, h, hlen, raiseDecodeFailure]

theorem fetch_of_opcode_fault {s : State} {r : Fault} (h : read8 s.pc s = .fault r) : fetch s = .fault r := by
  simp [fetch, h]

theorem fetch_of_operand_fault {s t : State} {b : Byte} {len : Nat} {r : Fault} (h : read8 s.pc s = .next (b, t))
    (hlen : lengthFromByte b = some len) (hr : readBytes (len - 1) (s.pc + 1#16) t = .fault r) : fetch s = .fault r := by
  simp [fetch, h, hlen, hr]

/-- Bytes of plain memory are read without a side effect (20_memory.md R56). -/
theorem readBytes_plain {s : State} {bytes : List Byte} {a : Word}
    (h : ∀ k, k < bytes.length → s.plainAt (a + BitVec.ofNat 16 k) = true ∧
      bytes[k]? = some (s.peek (a + BitVec.ofNat 16 k))) :
    readBytes bytes.length a s = .next (bytes, s) := by
  induction bytes generalizing a with
  | nil => rfl
  | cons b bytes ih =>
    obtain ⟨hp, hb⟩ : s.plainAt a = true ∧ b = s.peek a := by simpa using h 0 (by simp)
    have tail : readBytes bytes.length (a + 1#16) s = .next (bytes, s) := by
      refine ih fun k hk => ?_
      have next : a + 1#16 + BitVec.ofNat 16 k = a + BitVec.ofNat 16 (k + 1) := by
        rw [BitVec.add_assoc, Nat.add_comm k 1, BitVec.ofNat_add]
      simpa [next] using h (k + 1) (by simpa using hk)
    simp [readBytes, read8_plain hp, tail, hb]

/-! ## A running step by its fetch -/

section
variable {s : State} (hf : s.faulted = false) (hm : s.mode = .running)
include hf hm

theorem step_of_fetch {t : State} {i : Instr} (h : fetch s.promoteEI = .next (i, t)) :
    step s = andThen (andThen (exec i t) pollInterrupts) peripheralPhase := by
  rw [step_of_not_faulted hf, cpuStep_of_running hm, fetchDecodeExecute, h, andThen_next]

theorem step_of_fetch_fault {r : Fault} (h : fetch s.promoteEI = .fault r) : step s = .fault r := by
  rw [step_of_not_faulted hf, cpuStep_of_running hm, fetchDecodeExecute, h]
  rfl

theorem step_of_undefined {t : State} {b : Byte} (h : read8 s.pc s.promoteEI = .next (b, t)) (hb : b ∈ undefinedBytes) :
    step s = .fault (.decodeFailure s.pc false b t.markFaulted) := by
  rw [← s.promoteEI_pc] at h ⊢
  exact step_of_fetch_fault hf hm (fetch_of_undefined h hb)

end

end Sys2Proof.Machine

open Sys2Proof Sys2Proof.Machine

/-- Settles O3: the tables by their entries, and the step by the fault of its fetch (`step_of_undefined`), which leaves what
the read leaves. -/
theorem undefinedBytesFault : Obligations.UndefinedBytesFault := by
  refine ⟨unprefixed_eq_none_iff, prefixed_ne_none, fun s t b hf hm hs h hb => ?_⟩
  obtain ⟨ha, hmem, hie, hif⟩ := read8_next h
  rw [← State.promoteEI_of_not hs] at h
  exact ⟨step_of_undefined hf hm (by simpa using h) hb, ha.cpu, hmem, hie, hif⟩

/-- Settles O24, by the phases of a step in each mode (`cpuStep_of_halted`, `cpuStep_of_running`) and what the promotion
writes (`State.promoteEI_eq`). -/
theorem phasesOfAStep : Obligations.PhasesOfAStep := fun s =>
  ⟨cpuStep_of_halted, cpuStep_of_running, fun h => by simp [State.promoteEI_eq, h], State.promoteEI_of_not,
    step_of_not_faulted⟩

/-- Settles O27: the bytes read are those fetched (`fetch_of_decode`), and no read moves `pc`. -/
theorem stepRunsDecodedInstruction : Obligations.StepRunsDecodedInstruction := by
  intro s t i bytes hf hm hr hd
  have ha := readBytes_accessed bytes.length s.pc s.promoteEI
  rw [hr] at ha
  have hpc : t.pc = s.pc := by
    obtain ⟨-, -, -, -, -, -, -, -, -, hpc, -⟩ := ha.cpu
    exact hpc.trans s.promoteEI_pc
  rw [← s.promoteEI_pc] at hr
  rw [step_of_fetch hf hm (fetch_of_decode hr hd), State.advance, hpc]

/-- Settles O28: O27 with the bytes of plain memory (`readBytes_plain`), which decode to the instruction by O1. -/
theorem stepRunsStoredInstruction : Obligations.StepRunsStoredInstruction := by
  intro s i hf hm hw h
  refine stepRunsDecodedInstruction s s.promoteEI i (encode i) hf hm (readBytes_plain fun k hk => ?_) (decode_encode hw)
  rw [State.plainAt_of_registry s.promoteEI_registry, State.peek_promoteEI]
  exact h k hk

/-- Settles O29: the fetch ends in each of its faults, and the step in that of its fetch or of its instruction. -/
theorem faultEndsStep : Obligations.FaultEndsStep := by
  intro s hf hm
  refine ⟨fun r h => ?_, fun b t len r h hlen hr => ?_, fun b t h hb => ⟨step_of_undefined hf hm h hb, ?_⟩,
    fun i t h => ?_⟩
  · exact step_of_fetch_fault hf hm (fetch_of_opcode_fault (by simpa using h))
  · exact step_of_fetch_fault hf hm (fetch_of_operand_fault (by simpa using h) hlen (by simpa using hr))
  · obtain ⟨-, -, -, -, -, -, -, -, -, hpc, hime, hsched, -⟩ := (read8_next h).1.cpu
    exact ⟨hpc.trans s.promoteEI_pc, hime.trans s.promoteEI_ime, hsched.trans s.promoteEI_imeScheduled⟩
  · rw [step_of_fetch hf hm h]
    exact ⟨fun r hr => by rw [hr]; rfl, fun r hr => by rw [hr]; rfl⟩
end

section
/-! The loads, the stores and the stack transfers (40_load.md): one rule per shared operation, what it leaves after its bus
accesses and where it faults. -/

namespace Sys2Proof.Machine

/-! ## What follows an operation -/

/-- What is left after the operation need be the state `k` only where the operation answers. -/
theorem follows_andThen {α : Type} {o : Host.Outcome α Fault Refusal} {f k : α → State}
    (h : ∀ a, o = .next a → f a = k a) : Follows o (andThen o fun a => .next (f a)) k :=
  ⟨fun a ha => by rw [ha, andThen_next, h a ha], fun r hr => by rw [hr, andThen_fault]⟩

theorem followsTwo_andThen {α β : Type} {o : Host.Outcome α Fault Refusal} {p : α → Host.Outcome β Fault Refusal}
    {f k : α → β → State} (h : ∀ a b, o = .next a → p a = .next b → f a b = k a b) :
    FollowsTwo o p (andThen o fun a => andThen (p a) fun b => .next (f a b)) k :=
  ⟨fun a ha => by rw [ha, andThen_next]; exact follows_andThen fun b => h a b ha, fun r hr => by rw [hr, andThen_fault]⟩

/-! ## Operands -/

/-- The high page is the page of the high byte 0xFF (30_encoding.md R77). -/
theorem highPage_eq_append : ∀ v : Byte, highPage v = 0xFF#8 ++ v := by decide

/-- The flags that a pop of AF writes are bits 7-4 of the word popped (40_load.md R120). -/
theorem Flags.ofByte_loByte (v : Word) : Flags.ofByte (loByte v) =
    { z := v.getLsbD 7, n := v.getLsbD 6, h := v.getLsbD 5, c := v.getLsbD 4 } := by
  simp [Flags.ofByte, loByte]

/-- The low nibble of AF is that of F, which reads as zero (10_state.md R18). -/
theorem State.af_low (s : State) : s.af.extractLsb' 0 4 = 0#4 := by
  rw [State.af, joinBytes, BitVec.extractLsb'_append_eq_of_add_le (by decide), Flags.toByte,
    BitVec.extractLsb'_append_eq_of_add_le (by decide), BitVec.extractLsb'_zero]

/-- A bus access leaves HL alone. -/
theorem State.Accessed.hl {s t : State} (h : s.Accessed t) : t.hl = s.hl := by
  obtain ⟨-, -, -, -, -, -, hH, hL, -⟩ := h.cpu
  rw [State.hl, hH, hL, State.hl]

/-! ## The shared operations -/

theorem loadR_follows (dst : Reg8) (a : Word) (c : Nat) (s : State) :
    Follows (read8 a s) (loadR dst a c s) fun v => { v.2.setR dst v.1 with cycles := c } :=
  follows_andThen fun _ _ => rfl

theorem store_follows (a : Word) (v : Byte) (c : Nat) (s : State) :
    Follows (write8 a v s) (store a v c s) fun t => { t with cycles := c } :=
  follows_andThen fun _ _ => rfl

/-- HL after the read is HL before it (40_load.md R111, R112). -/
theorem loadAMoveHL_follows (k : Word) (s : State) :
    Follows (read8 s.hl s) (loadAMoveHL k s) fun v => { v.2.setPair .hl (s.hl + k) with rA := v.1, cycles := 8 } :=
  follows_andThen fun v hv => by
    rw [← (read8_next hv).1.hl]
    rfl

theorem storeAMoveHL_follows (k : Word) (s : State) :
    Follows (write8 s.hl s.rA s) (storeAMoveHL k s) fun t => { t.setPair .hl (s.hl + k) with cycles := 8 } :=
  follows_andThen fun t ht => by
    rw [← (write8_next ht).1.hl]
    rfl

theorem storeSp_follows (a : Word) (s : State) :
    FollowsTwo (write8 a (loByte s.sp) s) (fun s1 => write8 (a + 1#16) (hiByte s.sp) s1) (storeSp a s)
      fun _ t => { t with cycles := 20 } := by
  rw [storeSp, write16, andThen_assoc]
  exact followsTwo_andThen fun _ _ _ _ => rfl

theorem pushPair_follows (p : StackPair) (s : State) :
    Follows (push16 (s.getStackPair p) s) (pushPair p s) fun t => { t with cycles := 16 } :=
  follows_andThen fun _ _ => rfl

theorem popPair_follows (p : StackPair) (s : State) :
    Follows (pop16 s) (popPair p s) fun v => { v.2.setStackPair p v.1 with cycles := 12 } :=
  follows_andThen fun _ _ => rfl

/-! ## Encodings -/

theorem encode_ldRR (dst src : Reg8) : encode (Instr.ldRR dst src) = [0b01#2 ++ dst.code ++ src.code] := by
  cases dst <;> cases src <;> rfl

theorem encode_ldRN (dst : Reg8) (n : Byte) : encode (Instr.ldRN dst n) = [0b00#2 ++ dst.code ++ 0b110#3, n] := by
  cases dst <;> rfl

theorem encode_ldRM (dst : Reg8) : encode (Instr.ldRM dst) = [0b01#2 ++ dst.code ++ 0b110#3] := by cases dst <;> rfl

theorem encode_ldMR (src : Reg8) : encode (Instr.ldMR src) = [0b01110#5 ++ src.code] := by cases src <;> rfl

theorem encode_ldPairN (p : Pair) (n : Word) :
    encode (Instr.ldPairN p n) = [0b00#2 ++ p.code ++ 0b0001#4, loByte n, hiByte n] := by cases p <;> rfl

theorem encode_push (p : StackPair) : encode (Instr.push p) = [0b11#2 ++ p.code ++ 0b0101#4] := by cases p <;> rfl

theorem encode_pop (p : StackPair) : encode (Instr.pop p) = [0b11#2 ++ p.code ++ 0b0001#4] := by cases p <;> rfl

end Sys2Proof.Machine

open Sys2Proof Sys2Proof.Machine

/-- Settles O41: the meaning of a form is its shared operation (`exec_ldRR`, `exec_ldRN`), which is the state stated. -/
theorem loadRegister : Obligations.LoadRegister := fun dst s =>
  ⟨fun src => ⟨encode_ldRR dst src, exec_ldRR dst src s⟩, fun n => ⟨encode_ldRN dst n, exec_ldRN dst n s⟩⟩

/-- Settles O42: every form is `loadR` of its register and address (`loadR_follows`). -/
theorem loadByte : Obligations.LoadByte := by
  intro s
  simp only [← highPage_eq_append, exec_ldRM]
  exact ⟨fun dst => ⟨encode_ldRM dst, loadR_follows dst s.hl 8 s⟩, rfl, loadR_follows .a s.bc 8 s, rfl,
    loadR_follows .a s.de 8 s, fun a => ⟨rfl, loadR_follows .a a 16 s⟩,
    fun a => ⟨rfl, loadR_follows .a (highPage a) 12 s⟩, rfl, loadR_follows .a (highPage s.rC) 8 s⟩

/-- Settles O43: every form is `store` of its byte at its address (`store_follows`). -/
theorem storeByte : Obligations.StoreByte := by
  intro s
  simp only [← highPage_eq_append, exec_ldMR]
  exact ⟨fun src => ⟨encode_ldMR src, store_follows s.hl (s.getR src) 8 s⟩,
    fun n => ⟨rfl, store_follows s.hl n 12 s⟩, rfl, store_follows s.bc s.rA 8 s, rfl, store_follows s.de s.rA 8 s,
    fun a => ⟨rfl, store_follows a s.rA 16 s⟩, fun a => ⟨rfl, store_follows (highPage a) s.rA 12 s⟩, rfl,
    store_follows (highPage s.rC) s.rA 8 s⟩

/-- Settles O44: the access leaves HL alone, so HL moves from where it was before it (`loadAMoveHL_follows`,
`storeAMoveHL_follows`). -/
theorem loadStoreMoveHL : Obligations.LoadStoreMoveHL := by
  intro s
  simp only [BitVec.sub_eq_add_neg]
  exact ⟨rfl, rfl, rfl, rfl, loadAMoveHL_follows 1#16 s, loadAMoveHL_follows (-1#16) s, storeAMoveHL_follows 1#16 s,
    storeAMoveHL_follows (-1#16) s⟩

/-- Settles O45, by the shared operations of the three forms; that of `LD (a16), SP` is two writes in a row
(`storeSp_follows`). -/
theorem loadWord : Obligations.LoadWord := fun s =>
  ⟨fun p n => ⟨encode_ldPairN p n, exec_ldPairN p n s⟩, fun a => ⟨rfl, storeSp_follows a s⟩, rfl, exec_ld_sp_hl s⟩

/-- Settles O46: PUSH and POP are `pushPair` and `popPair` of their pair, and a pop of AF writes the flags from the word's
bits 7-4 (`Flags.ofByte_loByte`). -/
theorem pushAndPop : Obligations.PushAndPop := by
  intro s
  simp only [exec_push, ← Flags.ofByte_loByte]
  exact ⟨fun p => ⟨encode_push p, pushPair_follows p s⟩, encode_pop, popPair_follows .bc s, popPair_follows .de s,
    popPair_follows .hl s, popPair_follows .af s, s.af_low⟩
end

section
/-! The 8-bit arithmetic and logic (41_alu8.md): the sums and their flags on the numbers, then one rule per shared operation. -/

namespace Sys2Proof.Machine

/-! ## Masks and carries on the numbers -/

theorem toNat_and_lowNibble (v : Byte) : (v &&& 0x0F#8).toNat = v.toNat % 16 :=
  Nat.and_two_pow_sub_one_eq_mod v.toNat 4

theorem toNat_and_low12 (v : Word) : (v &&& 0x0FFF#16).toNat = v.toNat % 4096 :=
  Nat.and_two_pow_sub_one_eq_mod v.toNat 12

/-- Below `2 ^ (i + 1)`, masking with bit `i` says whether the number reaches `2 ^ i`: the carry out of bit `i - 1`. -/
theorem and_twoPow_eq_iff_le {w i : Nat} (hi : i < w) {x : BitVec w} (hx : x.toNat < 2 ^ (i + 1)) :
    x &&& BitVec.twoPow w i = BitVec.twoPow w i ↔ 2 ^ i ≤ x.toNat := by
  have bit : x.getLsbD i = true ↔ 2 ^ i ≤ x.toNat :=
    ⟨Nat.ge_two_pow_of_testBit, fun h => Nat.testBit_of_two_pow_le_and_two_pow_add_one_gt h hx⟩
  rw [← bit, BitVec.and_twoPow]
  cases x.getLsbD i
  · refine iff_of_false (fun h : 0#w = BitVec.twoPow w i => ?_) Bool.false_ne_true
    simpa [hi] using congrArg (BitVec.getLsbD · i) h
  · simp

/-! ## Sums and differences (R121, R122; 42_alu16.md R155) -/

theorem add8_res_toNat (a b : Byte) (cin : Bool) :
    (add8 a b cin).res.toNat = (a.toNat + b.toNat + cin.toNat) % 256 := BitVec.toNat_ofNat _ 8

theorem add8_c_iff (a b : Byte) (cin : Bool) : (add8 a b cin).c = true ↔ a.toNat + b.toNat + cin.toNat > 255 :=
  decide_eq_true_iff

theorem add8_h_iff (a b : Byte) (cin : Bool) :
    (add8 a b cin).h = true ↔ a.toNat % 16 + b.toNat % 16 + cin.toNat > 15 := by
  have hc := cin.toNat_le
  have sum : ((a &&& 0x0F#8) + (b &&& 0x0F#8) + BitVec.ofNat 8 cin.toNat).toNat =
      a.toNat % 16 + b.toNat % 16 + cin.toNat := by
    simp only [BitVec.toNat_add, toNat_and_lowNibble, BitVec.toNat_ofNat]
    omega
  have carry := and_twoPow_eq_iff_le (i := 4) (by decide) (sum.trans_lt (by omega))
  rw [sum] at carry
  exact decide_eq_true_iff.trans carry

/-- Without a carry in, the sum wraps exactly when the result is below the first operand. -/
theorem add8_c_iff_res_lt (a b : Byte) : (add8 a b false).c = true ↔ (add8 a b false).res < a := by
  rw [add8_c_iff, BitVec.lt_def, add8_res_toNat, Bool.toNat_false]
  omega

theorem sub8_res_toNat (a b : Byte) (bin : Bool) :
    ((sub8 a b bin).res.toNat : Int) = ((a.toNat : Int) - b.toNat - bin.toNat) % 256 := by
  rw [sub8, BitVec.toNat_ofInt]
  exact Int.toNat_of_nonneg (Int.emod_nonneg _ (by decide))

theorem sub8_c_iff (a b : Byte) (bin : Bool) : (sub8 a b bin).c = true ↔ a.toNat < b.toNat + bin.toNat := by
  rw [sub8, decide_eq_true_iff]
  omega

theorem sub8_h_iff (a b : Byte) (bin : Bool) :
    (sub8 a b bin).h = true ↔ a.toNat % 16 < b.toNat % 16 + bin.toNat := by
  rw [sub8, decide_eq_true_iff, toNat_and_lowNibble, toNat_and_lowNibble]
  omega

theorem add16_c_iff (a b : Word) : (add16 a b).c = true ↔ a.toNat + b.toNat > 65535 := decide_eq_true_iff

theorem add16_h_iff (a b : Word) : (add16 a b).h = true ↔ a.toNat % 4096 + b.toNat % 4096 > 4095 := by
  have sum : ((a &&& 0x0FFF#16) + (b &&& 0x0FFF#16)).toNat = a.toNat % 4096 + b.toNat % 4096 := by
    rw [BitVec.toNat_add, toNat_and_low12, toNat_and_low12]
    omega
  have carry := and_twoPow_eq_iff_le (i := 12) (by decide) (sum.trans_lt (by omega))
  rw [sum] at carry
  exact decide_eq_true_iff.trans carry

/-! ## The accumulator operations (R123-R146) -/

theorem encode_aluR (op : Alu) (r : Reg8) : encode (Instr.aluR op r) = [0b10#2 ++ op.code ++ r.code] := by
  cases op <;> cases r <;> rfl

theorem encode_aluM (op : Alu) : encode (Instr.aluM op) = [0b10#2 ++ op.code ++ 0b110#3] := by cases op <;> rfl

theorem encode_aluN (op : Alu) (n : Byte) : encode (Instr.aluN op n) = [0b11#2 ++ op.code ++ 0b110#3, n] := by
  cases op <;> rfl

/-- The state left need be `k` only where the operation answers. -/
theorem Follows.congr {α : Type} {first : Host.Outcome α Fault Refusal} {o : Out} {f k : α → State}
    (h : Follows first o f) (hk : ∀ a, first = .next a → f a = k a) : Follows first o k :=
  ⟨fun a ha => by rw [h.1 a ha, hk a ha], h.2⟩

/-- A and F after the read are those before it. -/
theorem exec_aluM_follows (op : Alu) (s : State) : Follows (read8 s.hl s) (exec (Instr.aluM op) s) fun v =>
    { v.2 with rA := (op.run s.rA v.1 s.f).1, f := (op.run s.rA v.1 s.f).2, cycles := 8 } := by
  rw [exec_aluM]
  refine follows_andThen fun v hv => ?_
  obtain ⟨hA, hF, -⟩ := (read8_next hv).1.cpu
  rw [← hA, ← hF]
  rfl

/-- CP leaves A (R145). -/
theorem exec_cpM_follows (s : State) : Follows (read8 s.hl s) (exec (Instr.aluM .cp) s) fun v =>
    { v.2 with f := (Alu.cp.run s.rA v.1 s.f).2, cycles := 8 } :=
  (exec_aluM_follows .cp s).congr fun v hv => by
    obtain ⟨hA, -⟩ := (read8_next hv).1.cpu
    rw [← hA]
    rfl

/-! ## Increments and decrements (R147-R150) -/

theorem and_lowNibble_eq_iff (v : Byte) (k : BitVec 4) : v &&& 0x0F#8 = k.setWidth 8 ↔ v.extractLsb' 0 4 = k := by
  rw [← BitVec.toNat_inj, ← BitVec.toNat_inj, toNat_and_lowNibble, BitVec.toNat_setWidth, BitVec.extractLsb'_toNat,
    Nat.shiftRight_zero]
  omega

theorem incFlags_eq (v : Byte) (f : Flags) : incFlags v f =
    { z := decide (v + 1#8 = 0#8), n := false, h := decide (v.extractLsb' 0 4 = 0xF#4), c := f.c } := by
  simp only [incFlags, ← and_lowNibble_eq_iff]
  rfl

theorem decFlags_eq (v : Byte) (f : Flags) : decFlags v f =
    { z := decide (v - 1#8 = 0#8), n := true, h := decide (v.extractLsb' 0 4 = 0x0#4), c := f.c } := by
  simp only [decFlags, ← and_lowNibble_eq_iff]
  rfl

theorem encode_incR (r : Reg8) : encode (Instr.incR r) = [0b00#2 ++ r.code ++ 0b100#3] := by cases r <;> rfl

theorem encode_decR (r : Reg8) : encode (Instr.decR r) = [0b00#2 ++ r.code ++ 0b101#3] := by cases r <;> rfl

/-- A read and a write after it leave F alone, so the C that the memory forms keep is that before them (R148, R150). -/
theorem read8_write8_f {a b : Word} {w : Byte} {s t : State} {v : Byte × State} (hv : read8 a s = .next v)
    (ht : write8 b w v.2 = .next t) : t.f = s.f := ((read8_next hv).1.trans (write8_next ht).1).quiet.2

theorem incM_follows (s : State) : FollowsTwo (read8 s.hl s) (fun v => write8 s.hl (v.1 + 1#8) v.2) (incM s)
    fun v t => { t with f := incFlags v.1 s.f, cycles := 12 } :=
  followsTwo_andThen fun v t hv ht => by rw [← read8_write8_f hv ht]; rfl

theorem decM_follows (s : State) : FollowsTwo (read8 s.hl s) (fun v => write8 s.hl (v.1 - 1#8) v.2) (decM s)
    fun v t => { t with f := decFlags v.1 s.f, cycles := 12 } :=
  followsTwo_andThen fun v t hv ht => by rw [← read8_write8_f hv ht]; rfl

/-! ## The adjustment of A (R151) -/

/-- Adding 0x60 leaves the low nibble, so the second comparison of the addition branch may be made on A itself. -/
theorem lowNibble_add_0x60 (a : Byte) : (a + 0x60#8) &&& 0x0F#8 = a &&& 0x0F#8 := by
  apply BitVec.eq_of_toNat_eq
  rw [toNat_and_lowNibble, toNat_and_lowNibble, BitVec.toNat_add, BitVec.toNat_ofNat]
  omega

theorem daaAfterAdd_eq (a : Byte) (f : Flags) : daaAfterAdd a f =
    let high := decide (f.c = true ∨ a.toNat > 0x99)
    let low := decide (f.h = true ∨ a.toNat % 16 > 9)
    (a + (if high then 0x60#8 else 0x00#8) + (if low then 0x06#8 else 0x00#8), high) := by
  have above99 : a > 0x99#8 ↔ a.toNat > 0x99 := BitVec.lt_def
  have above9 : a &&& 0x0F#8 > 0x09#8 ↔ a.toNat % 16 > 9 := by rw [← toNat_and_lowNibble]; exact BitVec.lt_def
  simp only [← above99, ← above9]
  by_cases high : f.c = true ∨ a > 0x99#8
  · by_cases low : f.h = true ∨ a &&& 0x0F#8 > 0x09#8 <;> simp [daaAfterAdd, high, low, lowNibble_add_0x60]
  · by_cases low : f.h = true ∨ a &&& 0x0F#8 > 0x09#8 <;> simp [daaAfterAdd, not_or.mp high, low]

theorem daaAfterSub_eq (a : Byte) (f : Flags) : daaAfterSub a f =
    (a - (if f.c then 0x60#8 else 0x00#8) - (if f.h then 0x06#8 else 0x00#8), f.c) := by
  obtain ⟨z, n, h, c⟩ := f
  cases h <;> cases c <;> simp [daaAfterSub]

end Sys2Proof.Machine

open Sys2Proof Sys2Proof.Machine

/-- Settles O47: the half carries are the carries out of the masked operands (`and_twoPow_eq_iff_le`), the rest is the
definition read on the numbers. -/
theorem sumsAndTheirFlags : Obligations.SumsAndTheirFlags := by
  refine ⟨fun a b cin => ⟨add8_res_toNat a b cin, decide_eq_true_iff, add8_h_iff a b cin, add8_c_iff a b cin, ?_⟩,
    fun a b bin => ⟨sub8_res_toNat a b bin, decide_eq_true_iff, sub8_h_iff a b bin, sub8_c_iff a b bin⟩,
    fun a b => ⟨BitVec.toNat_add a b, add16_h_iff a b, add16_c_iff a b⟩⟩
  rintro rfl
  exact add8_c_iff_res_lt a b

/-- Settles O48, for the two values of the carry bit of the opcode: the meaning of a form is `Alu.run` of its operation, and
the memory forms read first (`exec_aluM_follows`). -/
theorem addAndSubtract : Obligations.AddAndSubtract := by
  intro s withCarry
  cases withCarry <;>
    exact ⟨fun r => ⟨encode_aluR _ r, encode_aluR _ r, exec_aluR _ r s, exec_aluR _ r s⟩, encode_aluM _, encode_aluM _,
      exec_aluM_follows _ s, exec_aluM_follows _ s,
      fun n => ⟨encode_aluN _ n, encode_aluN _ n, exec_aluN _ n s, exec_aluN _ n s⟩⟩

/-- Settles O49: as for the sums, each form is `Alu.run` of its operation; CP leaves A (`exec_cpM_follows`). -/
theorem logicAndCompare : Obligations.LogicAndCompare := fun s =>
  ⟨fun r => ⟨encode_aluR .and r, encode_aluR .xor r, encode_aluR .or r, encode_aluR .cp r, exec_aluR .and r s,
      exec_aluR .xor r s, exec_aluR .or r s, exec_aluR .cp r s⟩,
    encode_aluM .and, encode_aluM .xor, encode_aluM .or, encode_aluM .cp, exec_aluM_follows .and s,
    exec_aluM_follows .xor s, exec_aluM_follows .or s, exec_cpM_follows s,
    fun n => ⟨encode_aluN .and n, encode_aluN .xor n, encode_aluN .or n, encode_aluN .cp n, exec_aluN .and n s,
      exec_aluN .xor n s, exec_aluN .or n s, exec_aluN .cp n s⟩⟩

/-- Settles O50: the flags are `incFlags` and `decFlags` of the operand (`incFlags_eq`, `decFlags_eq`), and in the memory
forms they follow a read and a write that keep F (`incM_follows`, `decM_follows`). -/
theorem incrementAndDecrement : Obligations.IncrementAndDecrement := by
  intro s
  simp only [← incFlags_eq, ← decFlags_eq]
  exact ⟨fun r => ⟨encode_incR r, encode_decR r, exec_incR r s, exec_decR r s⟩, rfl, rfl, incM_follows s,
    decM_follows s⟩

/-- Settles O51: DAA is its addition or its subtraction branch by N (`daaAfterAdd_eq`, `daaAfterSub_eq`). -/
theorem accumulatorAdjustments : Obligations.AccumulatorAdjustments := by
  intro s
  refine ⟨rfl, rfl, rfl, rfl, fun hn => ?_, fun hn => ?_, exec_cpl s, exec_scf s, exec_ccf s⟩
  · rw [exec_daa, adjustA, daa, hn, daaAfterAdd_eq]
    rfl
  · rw [exec_daa, adjustA, daa, hn, daaAfterSub_eq]
    rfl
end

section
/-! The 16-bit arithmetic (42_alu16.md): the flags of the additions to SP on the numbers, and the encodings of the pairs. -/

namespace Sys2Proof.Machine

/-! ## The flags of the additions to SP (R159, R160) -/

theorem toNat_and_nibbleOfWord (v : Word) : (v &&& 0x000F#16).toNat = v.toNat % 16 :=
  Nat.and_two_pow_sub_one_eq_mod v.toNat 4

theorem toNat_and_byteOfWord (v : Word) : (v &&& 0x00FF#16).toNat = v.toNat % 256 :=
  Nat.and_two_pow_sub_one_eq_mod v.toNat 8

theorem addSpOffset_spFlags (sp : Word) (e : Byte) : (addSpOffset sp e).spFlags =
    { z := false, n := false, h := decide (sp.toNat % 16 + e.toNat % 16 > 15)
      c := decide (sp.toNat % 256 + e.toNat > 255) } := by
  rw [Alu16Out.spFlags, addSpOffset, toNat_and_nibbleOfWord, toNat_and_lowNibble, toNat_and_byteOfWord]

/-! ## Encodings (R156-R158) -/

theorem encode_addHL (p : Pair) : encode (Instr.addHL p) = [0b00#2 ++ p.code ++ 0b1001#4] := by cases p <;> rfl

theorem encode_incPair (p : Pair) : encode (Instr.incPair p) = [0b00#2 ++ p.code ++ 0b0011#4] := by cases p <;> rfl

theorem encode_decPair (p : Pair) : encode (Instr.decPair p) = [0b00#2 ++ p.code ++ 0b1011#4] := by cases p <;> rfl

end Sys2Proof.Machine

open Sys2Proof Sys2Proof.Machine

/-- Settles O52: the meaning of a form is its shared operation (`exec_addHL`, `exec_incPair`, `exec_decPair`, `addSp`,
`ldHLSp`), and the flags of the two SP forms are those of the low byte of SP (`addSpOffset_spFlags`). -/
theorem sixteenBitArithmetic : Obligations.SixteenBitArithmetic := by
  intro s
  simp only [← addSpOffset_spFlags]
  exact ⟨fun p => ⟨encode_addHL p, encode_incPair p, encode_decPair p, exec_addHL p s, exec_incPair p s,
      exec_decPair p s⟩,
    fun e => ⟨rfl, rfl, exec_add_sp_e8 e s, exec_ld_hl_spE8 e s⟩⟩
end

section
/-! The rotates, the shifts and the bit instructions (43_rotate_shift_bit.md): the results by the slices of the byte, then
one rule per shared operation. -/

namespace Sys2Proof.Machine

/-! ## Results by the slices of the byte (R166-R181) -/

theorem bitByte_eq_append (b : Bool) : bitByte b = 0#7 ++ BitVec.ofBool b := by cases b <;> rfl

theorem bitByte_shiftLeft_seven (b : Bool) : bitByte b <<< 7 = BitVec.ofBool b ++ 0#7 := by cases b <;> rfl

theorem shiftLeft_one (v : Byte) : v <<< 1 = v.extractLsb' 0 7 ++ 0#1 := BitVec.shiftLeft_eq_concat_of_lt (by decide)

theorem shiftRight_one (v : Byte) : v >>> 1 = 0#1 ++ v.extractLsb' 1 7 :=
  BitVec.ushiftRight_eq_extractLsb'_of_lt (by decide)

/-- A shift to the left that takes `b` in at bit 0. -/
theorem shiftLeft_or_bitByte (v : Byte) (b : Bool) : v <<< 1 ||| bitByte b = v.extractLsb' 0 7 ++ BitVec.ofBool b := by
  rw [shiftLeft_one, bitByte_eq_append, BitVec.or_append, BitVec.or_zero, BitVec.zero_or]

/-- A shift to the right that takes `b` in at bit 7. -/
theorem shiftRight_or_bitByte (v : Byte) (b : Bool) :
    v >>> 1 ||| bitByte b <<< 7 = BitVec.ofBool b ++ v.extractLsb' 1 7 := by
  rw [shiftRight_one, bitByte_shiftLeft_seven, BitVec.or_append, BitVec.or_zero, BitVec.zero_or]

theorem shiftLeft_or_shiftRight_four (v : Byte) : v <<< 4 ||| v >>> 4 = v.extractLsb' 0 4 ++ v.extractLsb' 4 4 := by
  have high : v <<< 4 = v.extractLsb' 0 4 ++ 0#4 := BitVec.shiftLeft_eq_concat_of_lt (by decide)
  have low : v >>> 4 = 0#4 ++ v.extractLsb' 4 4 := BitVec.ushiftRight_eq_extractLsb'_of_lt (by decide)
  rw [high, low, BitVec.or_append, BitVec.or_zero, BitVec.zero_or]

/-- The bit 7 that SRA keeps (R176). -/
theorem and_signBit (v : Byte) : v &&& 0x80#8 = bitByte (v.getLsbD 7) <<< 7 := by
  refine (BitVec.and_twoPow v 7).trans ?_
  cases v.getLsbD 7 <;> rfl

theorem ofBool_getLsbD (v : Byte) (i : Nat) : BitVec.ofBool (v.getLsbD i) = v.extractLsb' i 1 := by
  rw [BitVec.getLsbD_eq_extractLsb']
  generalize v.extractLsb' i 1 = x
  revert x
  decide

theorem Rot.run_eq_rotated (op : Rot) (v : Byte) (cin : Bool) : op.run v cin = rotated op v cin := by
  cases op
  case rlc => exact congrArg (·, _) ((shiftLeft_or_bitByte v _).trans (by rw [ofBool_getLsbD]))
  case rrc => exact congrArg (·, _) ((shiftRight_or_bitByte v _).trans (by rw [ofBool_getLsbD]))
  case rl => exact congrArg (·, _) (shiftLeft_or_bitByte v cin)
  case rr => exact congrArg (·, _) (shiftRight_or_bitByte v cin)
  case sla => exact congrArg (·, _) (shiftLeft_one v)
  case sra =>
    rw [Rot.run, and_signBit, shiftRight_or_bitByte, ofBool_getLsbD]
    rfl
  case swap => exact congrArg (·, _) (shiftLeft_or_shiftRight_four v)
  case srl => exact congrArg (·, _) (shiftRight_one v)

/-! ## Encodings: the fields of the byte after the marker (30_encoding.md R73) -/

/-- The value of the operand field. -/
def Operand8.code : Operand8 → BitVec 3
  | .reg r => r.code
  | .atHL => 0b110#3

@[simp] theorem Operand8.ofCode_code (o : Operand8) : Operand8.ofCode o.code = o := by
  cases o with
  | reg r => cases r <;> rfl
  | atHL => rfl

@[simp] theorem Rot.ofCode_code (op : Rot) : Rot.ofCode op.code = op := by cases op <;> rfl

/-! The fields `x`, `y` and `z` of an opcode byte. -/

section Fields

variable (x : BitVec 2) (y z : BitVec 3)

@[simp] theorem opcode_field_x : (x ++ y ++ z).extractLsb' 6 2 = x := by
  rw [BitVec.extractLsb'_append_eq_of_le (by decide), BitVec.extractLsb'_append_eq_left]

@[simp] theorem opcode_field_y : (x ++ y ++ z).extractLsb' 3 3 = y := by
  rw [BitVec.extractLsb'_append_eq_of_le (by decide), BitVec.extractLsb'_append_eq_right]

@[simp] theorem opcode_field_z : (x ++ y ++ z).extractLsb' 0 3 = z := BitVec.extractLsb'_append_eq_right

end Fields

/-- A prefixed instruction is encoded as the marker and the byte whose fields name it. -/
theorem encode_of_prefixed {op2 : Byte} {i : Instr} (h : Instr.prefixed op2 = i) : encode i = [0xCB#8, op2] :=
  h ▸ encode_prefixed op2

theorem encode_rotOf (op : Rot) (o : Operand8) :
    encode (Instr.rotOf op o) = [0xCB#8, 0b00#2 ++ op.code ++ o.code] :=
  encode_of_prefixed (by simp [Instr.prefixed])

theorem encode_bitOf (b : Fin 8) (o : Operand8) :
    encode (Instr.bitOf b o) = [0xCB#8, 0b01#2 ++ BitVec.ofNat 3 b.val ++ o.code] :=
  encode_of_prefixed (by simp [Instr.prefixed])

theorem encode_resOf (b : Fin 8) (o : Operand8) :
    encode (Instr.resOf b o) = [0xCB#8, 0b10#2 ++ BitVec.ofNat 3 b.val ++ o.code] :=
  encode_of_prefixed (by simp [Instr.prefixed])

theorem encode_setOf (b : Fin 8) (o : Operand8) :
    encode (Instr.setOf b o) = [0xCB#8, 0b11#2 ++ BitVec.ofNat 3 b.val ++ o.code] :=
  encode_of_prefixed (by simp [Instr.prefixed])

/-! ## The shared operations -/

theorem rotA_eq (op : Rot) (s : State) : rotA op s = .next { s with
    rA := (rotated op s.rA s.f.c).1
    f := { z := false, n := false, h := false, c := (rotated op s.rA s.f.c).2 }
    cycles := 4 } := by
  rw [← Rot.run_eq_rotated]
  rfl

theorem rotR_eq (op : Rot) (r : Reg8) (s : State) : rotR op r s = .next { s.setR r (rotated op (s.getR r) s.f.c).1 with
    f := rotFlags (rotated op (s.getR r) s.f.c).1 (rotated op (s.getR r) s.f.c).2
    cycles := 8 } := by
  rw [← Rot.run_eq_rotated]
  rfl

/-- The carry in is that before the read, and the flags are written after the write (R165). -/
theorem rotM_follows (op : Rot) (s : State) :
    FollowsTwo (read8 s.hl s) (fun v => write8 s.hl (rotated op v.1 s.f.c).1 v.2) (rotM op s) fun v t =>
      { t with f := rotFlags (rotated op v.1 s.f.c).1 (rotated op v.1 s.f.c).2, cycles := 16 } := by
  simp only [← Rot.run_eq_rotated]
  exact followsTwo_andThen fun _ _ _ _ => rfl

/-- The C that BIT keeps is that before the read, which leaves F alone (R183). -/
theorem testBitM_follows (b : Fin 8) (s : State) :
    Follows (read8 s.hl s) (testBitM b s) fun v => { v.2 with f := bitFlags b v.1 s.f, cycles := 12 } :=
  follows_andThen fun v hv => by
    obtain ⟨-, hF, -⟩ := (read8_next hv).1.cpu
    rw [← hF]
    rfl

/-- The write is made whatever the byte (R165). -/
theorem modifyM_follows (g : Byte → Byte) (s : State) :
    FollowsTwo (read8 s.hl s) (fun v => write8 s.hl (g v.1) v.2) (modifyM g s) fun _ t => { t with cycles := 16 } :=
  followsTwo_andThen fun _ _ _ _ => rfl

end Sys2Proof.Machine

open Sys2Proof Sys2Proof.Machine

/-- Settles O53: each is `rotA` of its operation, whose result is that of the slices (`rotA_eq`) and whose Z is false. -/
theorem accumulatorRotates : Obligations.AccumulatorRotates := fun s =>
  ⟨rfl, rfl, rfl, rfl, rotA_eq .rlc s, rotA_eq .rrc s, rotA_eq .rl s, rotA_eq .rr s⟩

/-- Settles O54: the meaning is `rotR` of the operation and the register (`exec_rotR`, `rotR_eq`). -/
theorem prefixedRotatesOfRegisters : Obligations.PrefixedRotatesOfRegisters := fun op r s =>
  ⟨encode_rotOf op (.reg r), (exec_rotR op r s).trans (rotR_eq op r s)⟩

/-- Settles O55: the meaning is `rotM` of the operation, a read and a write in a row (`rotM_follows`). -/
theorem prefixedRotatesOfMemory : Obligations.PrefixedRotatesOfMemory := by
  intro op s
  rw [exec_rotM]
  exact ⟨encode_rotOf op .atHL, rotM_follows op s⟩

/-- Settles O56: BIT reads its operand and writes `bitFlags` (`testBitM_follows`), RES and SET replace theirs by
`resetBit` and `setBit` of it (`modifyM_follows`). -/
theorem bitInstructions : Obligations.BitInstructions := by
  intro b s
  rw [exec_bitM, exec_resM, exec_setM]
  exact ⟨fun r => ⟨encode_bitOf b (.reg r), encode_resOf b (.reg r), encode_setOf b (.reg r), exec_bitR b r s,
      exec_resR b r s, exec_setR b r s⟩,
    encode_bitOf b .atHL, encode_resOf b .atHL, encode_setOf b .atHL, testBitM_follows b s,
    modifyM_follows (resetBit b) s, modifyM_follows (setBit b) s⟩
end

section
/-! The control transfers (44_control.md): one rule per shared operation, what a jump answers and what follows the push or the
pop, and the encodings by the fields of the opcode. -/

namespace Sys2Proof.Machine

/-! ## The shared operations -/

theorem jumpIf_eq (cc : Cond) (target : Word) (taken notTaken : Nat) (s : State) : jumpIf cc target taken notTaken s =
    .next (if cc.holds s.f then { s with pc := target, cycles := taken } else { s with cycles := notTaken }) :=
  (apply_ite _ _ _ _).symm

theorem call_follows (target : Word) (c : Nat) (s : State) :
    Follows (push16 s.pc s) (call target c s) fun t => { t with pc := target, cycles := c } :=
  follows_andThen fun _ _ => rfl

theorem callIf_taken {cc : Cond} {s : State} (h : cc.holds s.f = true) (target : Word) :
    callIf cc target s = call target 24 s := if_pos h

theorem callIf_notTaken {cc : Cond} {s : State} (h : cc.holds s.f = false) (target : Word) :
    callIf cc target s = .next { s with cycles := 12 } := if_neg (Bool.eq_false_iff.mp h)

theorem ret_follows (c : Nat) (s : State) :
    Follows (pop16 s) (ret c s) fun v => { v.2 with pc := v.1, cycles := c } :=
  follows_andThen fun _ _ => rfl

theorem retIf_taken {cc : Cond} {s : State} (h : cc.holds s.f = true) : retIf cc s = ret 20 s := if_pos h

theorem retIf_notTaken {cc : Cond} {s : State} (h : cc.holds s.f = false) : retIf cc s = .next { s with cycles := 8 } :=
  if_neg (Bool.eq_false_iff.mp h)

/-- IME is set after the two reads, so a read that faults leaves it as it was (R197). -/
theorem reti_follows (s : State) : Follows (pop16 s) (reti s) fun v =>
    { v.2 with pc := v.1, ime := true, imeScheduled := false, cycles := 16 } := by
  rw [reti, returnFromInterrupt, andThen_assoc]
  exact follows_andThen fun _ _ => rfl

/-! ## Encodings: the fields `cc` and `y` of the opcode (30_encoding.md R71, R78) -/

theorem encode_jpIf (cc : Cond) (a : Word) :
    encode (Instr.jpIf cc a) = [0b110#3 ++ cc.code ++ 0b010#3, loByte a, hiByte a] := by cases cc <;> rfl

theorem encode_jrIf (cc : Cond) (e : Byte) : encode (Instr.jrIf cc e) = [0b001#3 ++ cc.code ++ 0b000#3, e] := by
  cases cc <;> rfl

theorem encode_callIf (cc : Cond) (a : Word) :
    encode (Instr.callIf cc a) = [0b110#3 ++ cc.code ++ 0b100#3, loByte a, hiByte a] := by cases cc <;> rfl

theorem encode_retIf (cc : Cond) : encode (Instr.retIf cc) = [0b110#3 ++ cc.code ++ 0b000#3] := by cases cc <;> rfl

theorem encode_rst (y : Fin 8) : encode (Instr.rst y) = [0b11#2 ++ BitVec.ofNat 3 y.val ++ 0b111#3] := by
  fin_cases y <;> rfl

end Sys2Proof.Machine

open Sys2Proof Sys2Proof.Machine

/-- Settles O57: an unconditional form is `jump` to its target, and a conditional one is `jumpIf`, whose two branches are
the states stated (`jumpIf_eq`). -/
theorem jumps : Obligations.Jumps := fun s =>
  ⟨⟨rfl, rfl, rfl, rfl⟩, fun a => ⟨rfl, exec_jp_a16 a s⟩,
    fun cc a => ⟨encode_jpIf cc a, (exec_jpIf cc a s).trans (jumpIf_eq cc a 16 12 s)⟩, rfl, exec_jp_hl s,
    fun e => ⟨rfl, exec_jr_e8 e s⟩,
    fun cc e => ⟨encode_jrIf cc e, (exec_jrIf cc e s).trans (jumpIf_eq cc _ 12 8 s)⟩⟩

/-- Settles O58: CALL, a taken CALL cc and RST are `call` to their target, the push and then `pc` (`call_follows`); a
CALL cc not taken is the cost alone (`callIf_notTaken`). -/
theorem callsAndRestarts : Obligations.CallsAndRestarts := by
  intro s
  refine ⟨fun a => ⟨rfl, call_follows a 24 s⟩, fun cc a => ⟨encode_callIf cc a, fun taken => ?_, fun notTaken => ?_⟩,
    fun y => ⟨encode_rst y, ?_⟩⟩
  · rw [exec_callIf, callIf_taken taken]
    exact call_follows a 24 s
  · rw [exec_callIf, callIf_notTaken notTaken]
  · rw [exec_rst, BitVec.ofNat_mul]
    exact call_follows _ 16 s

/-- Settles O59: RET and a taken RET cc are `ret`, the pop and then `pc` (`ret_follows`); RETI sets IME after the pop
(`reti_follows`); a RET cc not taken is the cost alone (`retIf_notTaken`). -/
theorem returns : Obligations.Returns := by
  intro s
  refine ⟨rfl, rfl, ret_follows 16 s, fun cc => ⟨encode_retIf cc, fun taken => ?_, fun notTaken => ?_⟩, reti_follows s⟩
  · rw [exec_retIf, retIf_taken taken]
    exact ret_follows 20 s
  · rw [exec_retIf, retIf_notTaken notTaken]
end

section
/-! The system instructions (45_system.md): what `enable` and `stop` answer under each value of their parameter, P_EI_DELAYED
and P_STOP_MODE. -/

namespace Sys2Proof.Machine

theorem enable_delayed {s : State} (h : s.config.eiDelayed = true) :
    enable s = .next { s with imeScheduled := true, cycles := 4 } := if_pos h

theorem enable_immediate {s : State} (h : s.config.eiDelayed = false) :
    enable s = .next { s with ime := true, cycles := 4 } := if_neg (Bool.eq_false_iff.mp h)

theorem stop_nop {s : State} (h : s.config.stopMode = .nop) : stop s = .next { s with cycles := 4 } := by
  rw [stop, h]
  rfl

theorem stop_refuse {s : State} (h : s.config.stopMode = .refuse) :
    stop s = .refused (.stop (s.pc - 2#16) { s with faulted := true }) := by
  rw [stop, h]
  rfl

end Sys2Proof.Machine

open Sys2Proof Sys2Proof.Machine

/-- Settles O60: NOP, HALT and DI have one meaning each, EI is `enable` and STOP is `stop`, whose answer the parameter
chooses (`enable_delayed`, `enable_immediate`, `stop_nop`, `stop_refuse`). -/
theorem systemInstructions : Obligations.SystemInstructions := by
  intro s
  refine ⟨rfl, rfl, rfl, rfl, exec_nop s, exec_halt s, exec_di s, ?_, ?_, fun n => ⟨rfl, ?_, ?_⟩⟩
  · exact fun delayed => (exec_ei s).trans (enable_delayed delayed)
  · exact fun immediate => (exec_ei s).trans (enable_immediate immediate)
  · exact fun nop => (exec_stop_n8 n s).trans (stop_nop nop)
  · exact fun refuse => (exec_stop_n8 n s).trans (stop_refuse refuse)
end

section
/-! The interrupt controller's bytes (60_exceptions.md R214, R215): its two registers on the bus, and that no step reaches the
backing bytes under them. -/

namespace Sys2Proof.Machine

section
variable {s : State} (h : s.controllerFirst = true)
include h

theorem read8_ieAddress : read8 ieAddress s = .next (s.ieByte, s) := by
  obtain ⟨rest, hr⟩ := State.registry_of_controllerFirst h
  simp [read8, hr, controllerRegistrations, readVia, Registration.covers, Handler.onRead, ifAddress, ieAddress]

theorem read8_ifAddress : read8 ifAddress s = .next (s.ifByte, s) := by
  obtain ⟨rest, hr⟩ := State.registry_of_controllerFirst h
  simp [read8, hr, controllerRegistrations, readVia, Registration.covers, Handler.onRead, ifAddress]

theorem write8_ieAddress (v : Byte) : write8 ieAddress v s = .next { s with ieReg := v.setWidth 5 } := by
  obtain ⟨rest, hr⟩ := State.registry_of_controllerFirst h
  simp [write8, hr, controllerRegistrations, writeVia, Registration.covers, Handler.onWrite, ifAddress, ieAddress]

theorem write8_ifAddress (v : Byte) : write8 ifAddress v s = .next { s with ifReg := v.setWidth 5 } := by
  obtain ⟨rest, hr⟩ := State.registry_of_controllerFirst h
  simp [write8, hr, controllerRegistrations, writeVia, Registration.covers, Handler.onWrite, ifAddress]

end

/-- The five bits that the controller stores are those under the mask 0x1F (60_exceptions.md R214, R215). -/
theorem setWidth_and_0x1F (v : Byte) : (v &&& 0x1F#8).setWidth 5 = v.setWidth 5 := by
  rw [BitVec.setWidth_and]
  exact BitVec.and_allOnes

end Sys2Proof.Machine

open Sys2Proof Sys2Proof.Machine

/-- Settles O34: from phase to phase a step keeps the backing bytes under the controller (`State.Kept`, `step_next`). -/
theorem controllerBytesNeverWritten : Obligations.ControllerBytesNeverWritten := by
  intro s t hs h
  obtain ⟨-, kept, -⟩ := step_next h
  exact ⟨kept.ifByte hs.controllerFirst, kept.ieByte hs.controllerFirst⟩

/-- Settles O14: the controller is the first handler at each of its addresses. -/
theorem controllerRegistersOnBus : Obligations.ControllerRegistersOnBus := by
  refine fun s h => ⟨read8_ieAddress h, read8_ifAddress h, fun v => ?_, fun v => ?_, rfl, rfl⟩
  · rw [setWidth_and_0x1F]
    exact write8_ieAddress h v
  · rw [setWidth_and_0x1F]
    exact write8_ifAddress h v
end

section
/-! The peripheral phase (60_exceptions.md R235, R236): the places stepped, kind by kind, each once. -/

namespace Sys2Proof.Machine

/-- The places of the devices of one kind, in list order (log entry 16). -/
def State.placesOf (s : State) (k : DeviceKind) : List Nat :=
  (List.range s.devices.length).filter fun i => decide ((s.devices[i]?).map Device.kind = some k)

theorem State.stepOrder_eq (s : State) : s.stepOrder = steppedKinds.flatMap s.placesOf := rfl

theorem State.mem_placesOf {s : State} {k : DeviceKind} {i : Nat} :
    i ∈ s.placesOf k ↔ ∃ d, s.devices[i]? = some d ∧ d.kind = k := by
  simp only [State.placesOf, List.mem_filter, List.mem_range, decide_eq_true_eq, Option.map_eq_some_iff]
  refine and_iff_right_of_imp ?_
  rintro ⟨d, hd, -⟩
  exact (List.getElem?_eq_some_iff.mp hd).1

theorem State.mem_stepOrder {s : State} {i : Nat} :
    i ∈ s.stepOrder ↔ ∃ d, s.devices[i]? = some d ∧ d.kind ∈ steppedKinds := by
  rw [s.stepOrder_eq, List.mem_flatMap]
  constructor
  · rintro ⟨k, hk, hi⟩
    obtain ⟨d, hd, rfl⟩ := State.mem_placesOf.mp hi
    exact ⟨d, hd, hk⟩
  · rintro ⟨d, hd, hk⟩
    exact ⟨d.kind, hk, State.mem_placesOf.mpr ⟨d, hd, rfl⟩⟩

/-- No place has two kinds, so none is stepped twice. -/
theorem State.stepOrder_nodup (s : State) : s.stepOrder.Nodup := by
  rw [s.stepOrder_eq, List.nodup_flatMap]
  refine ⟨fun k _ => List.nodup_range.filter _, List.Nodup.pairwise_of_forall_ne (by decide) ?_⟩
  intro k _ k' _ hne i hi hi'
  obtain ⟨d, hd, rfl⟩ := State.mem_placesOf.mp hi
  obtain ⟨d', hd', rfl⟩ := State.mem_placesOf.mp hi'
  cases hd.symm.trans hd'
  exact hne rfl

theorem State.stepRank_of_mem {s : State} {k : DeviceKind} {i : Nat} (h : i ∈ s.placesOf k) :
    s.stepRank i = steppedKinds.idxOf k := by
  obtain ⟨d, hd, rfl⟩ := State.mem_placesOf.mp h
  rw [State.stepRank, hd]

theorem State.stepOrder_rising (s : State) : s.stepOrder.Pairwise fun i j => s.stepRank i ≤ s.stepRank j := by
  have kinds : steppedKinds.Pairwise fun k k' => steppedKinds.idxOf k ≤ steppedKinds.idxOf k' := by decide
  rw [s.stepOrder_eq, List.pairwise_flatMap]
  refine ⟨fun k _ => List.pairwise_of_forall_mem_list fun i hi j hj => ?_, kinds.imp fun hk i hi j hj => ?_⟩
  · rw [State.stepRank_of_mem hi, State.stepRank_of_mem hj]
  · rwa [State.stepRank_of_mem hi, State.stepRank_of_mem hj]

/-- Stepping places one after the other is a fold of `andThen` over them. -/
theorem andThen_stepDevices (places : List Nat) (n : Nat) (o : Out) :
    andThen o (stepDevices places n) = places.foldl (fun o i => andThen o (stepDevice n i)) o := by
  induction places generalizing o with
  | nil => cases o <;> rfl
  | cons i rest ih =>
    rw [List.foldl_cons, ← ih, andThen_assoc]
    rfl

theorem peripheralPhase_of_no_devices {s : State} (h : s.devices = []) : peripheralPhase s = .next s := by
  have : s.stepOrder = [] := by simp [State.stepOrder, h]
  rw [peripheralPhase, this, stepDevices]

end Sys2Proof.Machine

open Sys2Proof Sys2Proof.Machine

/-- Settles O35: the places of each kind follow one another (`stepDevices_append`), no place has two kinds
(`State.stepOrder_nodup`), and the rank of a place is that of its kind (`State.stepOrder_rising`). -/
theorem peripheralOrder : Obligations.PeripheralOrder := by
  refine ⟨rfl, fun i n s d hd => ?_, fun s => ⟨?_, ?_, fun i => State.mem_stepOrder, s.stepOrder_nodup,
    s.stepOrder_rising, peripheralPhase_of_no_devices⟩⟩
  · rw [stepDevice, hd]
  · exact andThen_stepDevices s.stepOrder s.cycles (.next s)
  · have kinds : s.stepOrder = s.placesOf .cartridge ++ (s.placesOf .dma ++ (s.placesOf .pixelPipeline ++
        (s.placesOf .timer ++ s.placesOf .serial))) := by simp [State.stepOrder_eq, steppedKinds]
    rw [peripheralPhase, kinds]
    simp only [stepDevices_append]
    rfl
end

section
/-! The interrupt lines and the poll (60_exceptions.md R212-R225): the bits of IE and IF by line, the line served next, and
what the poll and a service leave. -/

namespace Sys2Proof.Machine

/-! ## Lines as bits -/

theorem line_bit (l l' : Line) : (1#5 <<< lineIndex l).getLsbD (lineIndex l') = decide (l' = l) := by
  cases l <;> cases l' <;> rfl

theorem lineIndex_lt (l : Line) : lineIndex l < 5 := by cases l <;> decide

theorem State.clearRequest_bit (s : State) (l l' : Line) :
    (s.clearRequest l).ifReg.getLsbD (lineIndex l') = if l' = l then false else s.ifReg.getLsbD (lineIndex l') := by
  rw [State.clearRequest, BitVec.getLsbD_and, BitVec.getLsbD_not, line_bit]
  by_cases h : l' = l <;> simp [h, lineIndex_lt]

theorem State.request_bit (s : State) (l l' : Line) :
    (s.request l).ifReg.getLsbD (lineIndex l') = if l' = l then true else s.ifReg.getLsbD (lineIndex l') := by
  rw [State.request, BitVec.getLsbD_or, line_bit]
  by_cases h : l' = l <;> simp [h]

theorem State.request_request (s : State) (l : Line) : (s.request l).request l = s.request l := by
  simp only [State.request, BitVec.or_assoc, BitVec.or_self]

theorem State.pending_eq (s : State) (l : Line) : s.pending l = (s.ieReg &&& s.ifReg).getLsbD (lineIndex l) :=
  BitVec.getLsbD_and.symm

/-- Five bits are zero when the bit of every line is. -/
theorem eq_zero_iff_lines (p : BitVec 5) : p = 0#5 ↔ ∀ l, p.getLsbD (lineIndex l) = false := by
  refine ⟨fun h l => by simp [h], fun h => BitVec.eq_of_getLsbD_eq fun i hi => ?_⟩
  match i, hi with
  | 0, _ => exact h .vblank
  | 1, _ => exact h .lcdStat
  | 2, _ => exact h .timer
  | 3, _ => exact h .serial
  | 4, _ => exact h .joypad

/-! ## The line served next -/

theorem mem_linesByPriority (l : Line) : l ∈ linesByPriority := by cases l <;> decide

/-- The lines before `l` in the order of priority are those of a lower index (60_exceptions.md R219). -/
theorem mem_before_iff {before after : List Line} {l : Line} (h : linesByPriority = before ++ l :: after) (l' : Line) :
    l' ∈ before ↔ lineIndex l' < lineIndex l := by
  have rising : linesByPriority.Pairwise fun l l' => lineIndex l < lineIndex l' := by decide
  have mem := mem_linesByPriority l'
  rw [h] at rising mem
  obtain ⟨-, tail, lower⟩ := List.pairwise_append.mp rising
  refine ⟨fun hb => lower l' hb l (by simp), fun hlt => ?_⟩
  rcases List.mem_append.mp mem with hb | hl
  · exact hb
  · rcases List.mem_cons.mp hl with rfl | ha
    · omega
    · have := List.rel_of_pairwise_cons tail ha
      omega

theorem State.nextRequest_eq_none (s : State) : s.nextRequest = none ↔ s.ieReg &&& s.ifReg = 0#5 := by
  rw [eq_zero_iff_lines, State.nextRequest, List.find?_eq_none]
  simp only [State.pending_eq, mem_linesByPriority, true_imp_iff, Bool.not_eq_true]

theorem State.nextRequest_eq_some (s : State) (l : Line) : s.nextRequest = some l ↔
    s.pending l = true ∧ ∀ l', lineIndex l' < lineIndex l → s.pending l' = false := by
  rw [State.nextRequest, List.find?_eq_some_iff_append]
  refine and_congr_right fun _ => ⟨?_, fun h => ?_⟩
  · rintro ⟨before, after, hsplit, none_before⟩ l' hlt
    simpa using none_before l' ((mem_before_iff hsplit l').mpr hlt)
  · obtain ⟨before, after, hsplit⟩ := List.append_of_mem (mem_linesByPriority l)
    exact ⟨before, after, hsplit, fun l' hb => by simp [h l' ((mem_before_iff hsplit l').mp hb)]⟩

/-! ## The poll -/

theorem State.consumeRequest_of_none {s : State} (h : s.nextRequest = none) : s.consumeRequest = (none, s) := by
  rw [State.consumeRequest, h]

theorem State.consumeRequest_of_some {s : State} {l : Line} (h : s.nextRequest = some l) :
    s.consumeRequest = (some l, s.clearRequest l) := by
  rw [State.consumeRequest, h]

theorem State.wakeCond_iff (s : State) : s.wakeCond = true ↔ s.wakeHolds := by
  unfold State.wakeCond State.wakeHolds
  cases s.config.haltWake <;> simp

theorem State.wake_of_holds {s : State} (hm : s.mode = .halted) (hw : s.wakeHolds) :
    s.wake = { s with mode := .running } := if_pos ⟨hm, s.wakeCond_iff.mpr hw⟩

theorem State.wake_of_not {s : State} (h : s.mode = .running ∨ ¬ s.wakeHolds) : s.wake = s := by
  refine if_neg fun ⟨hm, hw⟩ => ?_
  rcases h with hr | hn
  · cases hm.symm.trans hr
  · exact hn (s.wakeCond_iff.mp hw)

theorem pollInterrupts_idle {s : State} (h : s.ime = false ∨ s.nextRequest = none) :
    pollInterrupts s = .next s.wake := by
  rcases pollInterrupts_cases s with ⟨hp, -⟩ | ⟨l, hi, hn, -⟩
  · exact hp
  · rcases h with h | h
    · cases hi.symm.trans h
    · cases hn.symm.trans h

theorem lineVector_eq (l : Line) : lineVector l = 0x0040#16 + 8#16 * BitVec.ofNat 16 (lineIndex l) := by
  cases l <;> rfl

/-- The engine as a service of the line `l` pushes `pc` from it (60_exceptions.md R221). -/
def State.serving (s : State) (l : Line) : State :=
  { s.clearRequest l with ime := false, imeScheduled := false, mode := .running }

/-- The service overwrites the mode, so it is the same with the wake before it and without (60_exceptions.md R220). -/
theorem pollInterrupts_service {s : State} {l : Line} (hi : s.ime = true) (hn : s.nextRequest = some l) :
    pollInterrupts s = andThen (push16 s.pc (s.serving l)) fun t =>
      .next { t with pc := lineVector l, cycles := t.cycles + t.config.intServiceCycles } := by
  have woken : takeInterrupt l (s.wake.clearRequest l) = takeInterrupt l (s.clearRequest l) := by
    rcases s.wake_cases with hw | ⟨-, -, hw⟩
    · rw [hw]
    · rw [hw]
      rfl
  rcases pollInterrupts_cases s with ⟨-, h⟩ | ⟨l', -, hn', hp⟩
  · rcases h with h | h
    · cases hi.symm.trans h
    · cases hn.symm.trans h
  · cases hn.symm.trans hn'
    rw [hp, woken]
    rfl

/-- A poll with the wake condition leaves the engine Running: by the wake, or by the service (60_exceptions.md R225). -/
theorem pollInterrupts_running {s t : State} (hw : s.wakeHolds) (h : pollInterrupts s = .next t) :
    t.mode = .running := by
  rcases pollInterrupts_cases s with ⟨hp, -⟩ | ⟨l, -, -, hp⟩
  · cases hp.symm.trans h
    cases hm : s.mode with
    | halted => rw [State.wake_of_holds hm hw]
    | running => rw [State.wake_of_not (.inl hm), hm]
  · have ends := takeInterrupt_ends l (s.wake.clearRequest l)
    rw [← hp, h] at ends
    obtain ⟨u, pushed, -, rfl⟩ := ends
    exact pushed.cpu.mode

end Sys2Proof.Machine

open Sys2Proof Sys2Proof.Machine

/-- Settles O20, by the lines in the order of their bits (`State.nextRequest_eq_none`, `State.nextRequest_eq_some`). -/
theorem highestPriorityLine : Obligations.HighestPriorityLine := by
  intro s
  simp only [← State.pending_eq]
  exact ⟨s.nextRequest_eq_none, s.nextRequest_eq_some⟩

/-- Settles O21, by the bits that a consumption and a request leave (`State.clearRequest_bit`, `State.request_bit`). -/
theorem consumeAndRequestOneLine : Obligations.ConsumeAndRequestOneLine := by
  refine fun s => ⟨?_, fun h => ?_, fun l h => ?_, fun l => ⟨rfl, s.request_request l, s.request_bit l⟩⟩
  · cases h : s.nextRequest with
    | none => rw [State.consumeRequest_of_none h]
    | some l => rw [State.consumeRequest_of_some h]
  · rw [State.consumeRequest_of_none h]
  · rw [State.consumeRequest_of_some h]
    exact ⟨rfl, s.clearRequest_bit l⟩

/-- Settles O22: without a service the poll is the wake (`pollInterrupts_idle`), with one it is the push and then the vector
(`pollInterrupts_service`). -/
theorem pollAndService : Obligations.PollAndService := by
  refine ⟨⟨rfl, rfl, rfl, rfl, rfl⟩, fun s => ⟨fun h => ⟨fun hm hw => ?_, fun hw => ?_⟩, fun l hi hn => ?_⟩⟩
  · rw [pollInterrupts_idle h, State.wake_of_holds hm hw]
  · rw [pollInterrupts_idle h, State.wake_of_not hw]
  · rw [pollInterrupts_service hi hn]
    exact follows_andThen fun t _ => by rw [lineVector_eq]

/-- Settles O23: the service's push onto plain memory (`push16_plain`) stores `pc` and nothing else. -/
theorem serviceOnPlainStack : Obligations.ServiceOnPlainStack := by
  intro s l hi hn hm h1 h2
  obtain ⟨t, pushed, frame, hlo, hhi, hrest, -⟩ := popUndoesPush (s.serving l) s.pc hm h1 h2
  obtain ⟨mem, rfl⟩ : ∃ mem, t = { s.serving l with sp := s.sp - 2#16, mem := mem } := ⟨_, frame⟩
  rw [pollInterrupts_service hi hn, pushed]
  exact ⟨_, rfl, rfl, s.clearRequest_bit l, hhi, hlo, hrest⟩

/-- Settles O25: a halted step is the idle cost and the poll (`cpuStep_of_halted`), which without a pending line neither
serves nor wakes, and with one leaves the engine Running (`pollInterrupts_running`). -/
theorem quiescentHalt : Obligations.QuiescentHalt := by
  intro s inv
  have halted (hm : s.mode = .halted) :
      step s = andThen (pollInterrupts (s.charge s.config.haltIdleCycles)) peripheralPhase := by
    rw [step_of_not_faulted inv.notFaulted, cpuStep_of_halted hm, State.promoteEI_of_not (inv.haltedNotScheduled hm)]
  refine ⟨fun ⟨hm, hp, hw, hd⟩ => ?_, fun hm hd hw hp t h => ?_⟩
  · have none_next : (s.charge s.config.haltIdleCycles).nextRequest = none := (State.nextRequest_eq_none _).mpr hp
    have asleep : ¬ (s.charge s.config.haltIdleCycles).wakeHolds := by simp [State.wakeHolds, hp, hw]
    rw [halted hm, pollInterrupts_idle (.inr none_next), State.wake_of_not (.inr asleep), andThen_next]
    exact peripheralPhase_of_no_devices hd
  · have awake : (s.charge s.config.haltIdleCycles).wakeHolds := .inl ⟨hw, hp⟩
    obtain ⟨u, hpoll, hperi⟩ := andThen_eq_next.mp ((halted hm).symm.trans h)
    exact (peripheralPhase_next hperi).2.mode.trans (pollInterrupts_running awake hpoll)
end

section
/-! What a fault inside an instruction is (60_exceptions.md R207, R208), once for all instructions (`exec_aborts`): some handler
can abort, and the state left is reached from the one before by bus accesses, with `sp` moved by a push or a pop at most. -/

namespace Sys2Proof.Machine

/-! ## What an outcome satisfies -/

theorem Ends.and {α : Type} {o : Host.Outcome α Fault Refusal} {P P' : α → Prop} {Q Q' : Fault → Prop}
    {R R' : Refusal → Prop} (h : Ends o P Q R) (h' : Ends o P' Q' R') :
    Ends o (fun a => P a ∧ P' a) (fun r => Q r ∧ Q' r) (fun r => R r ∧ R' r) := by
  cases o <;> exact ⟨h, h'⟩

/-- What can neither fault nor be refused answers. -/
theorem Ends.completes {α : Type} {o : Host.Outcome α Fault Refusal} {P : α → Prop} {Q : Fault → Prop}
    {R : Refusal → Prop} (h : Ends o P Q R) (hQ : ∀ r, ¬ Q r) (hR : ∀ r, ¬ R r) : ∃ a, o = .next a ∧ P a := by
  cases o with
  | next a => exact ⟨a, rfl, h⟩
  | fault r => exact absurd h (hQ r)
  | refused r => exact absurd h (hR r)

/-! ## The handlers that can abort -/

theorem State.busIsSafe_of_registry {s t : State} (h : t.registry = s.registry) : t.busIsSafe = s.busIsSafe := by
  rw [State.busIsSafe, h, State.busIsSafe]

/-- The list has a handler that can abort an access (60_exceptions.md R207). -/
def SomeAborts (regs : List Registration) : Prop := ∃ r ∈ regs, r.handler.neverAborts = false

theorem SomeAborts.tail {r : Registration} {rest : List Registration} (h : SomeAborts rest) : SomeAborts (r :: rest) := by
  obtain ⟨q, hq, hn⟩ := h
  exact ⟨q, List.mem_cons_of_mem r hq, hn⟩

theorem State.busIsSafe_eq_false {s : State} : s.busIsSafe = false ↔ SomeAborts s.registry := by
  simp [State.busIsSafe, SomeAborts]

theorem Handler.neverAborts_of_read {h : Handler} {a : Word} {s t : State} (e : h.onRead a s = (.abort, t)) :
    h.neverAborts = false := by
  cases h with
  | interruptController =>
    simp only [Handler.onRead] at e
    split at e
    · cases e
    · split at e <;> cases e
  | device i => rfl
  | fixed r w => cases e; rfl

theorem Handler.neverAborts_of_write {h : Handler} {a : Word} {v : Byte} {s t : State}
    (e : h.onWrite a v s = (.abort, t)) : h.neverAborts = false := by
  cases h with
  | interruptController =>
    simp only [Handler.onWrite] at e
    split at e
    · cases e
    · split at e <;> cases e
  | device i => rfl
  | fixed r w => cases e; simp [Handler.neverAborts]

/-- A read that faults was aborted by a handler of the list. -/
theorem readVia_aborts (regs : List Registration) (a : Word) (s : State) :
    Ends (readVia regs a s) (fun _ => True) (fun _ => SomeAborts regs) never := by
  induction regs generalizing s with
  | nil => trivial
  | cons r rest ih =>
    have later (s : State) := (ih s).mono (fun _ => id) (fun _ => SomeAborts.tail (r := r)) fun _ => id
    simp only [readVia]
    split
    · rcases h : r.handler.onRead a s with ⟨o, s1⟩
      cases o with
      | replace v => trivial
      | passthrough => exact later s1
      | abort => exact ⟨r, List.mem_cons_self, Handler.neverAborts_of_read h⟩
    · exact later s

/-- A write that faults was aborted by a handler of the list. -/
theorem writeVia_aborts (regs : List Registration) (a : Word) (v : Byte) (s : State) :
    Ends (writeVia regs a v s) (fun _ => True) (fun _ => SomeAborts regs) never := by
  induction regs generalizing s with
  | nil => trivial
  | cons r rest ih =>
    have later (s : State) := (ih s).mono (fun _ => id) (fun _ => SomeAborts.tail (r := r)) fun _ => id
    simp only [writeVia]
    split
    · rcases h : r.handler.onWrite a v s with ⟨o, s1⟩
      cases o with
      | block => trivial
      | replace v' => trivial
      | passthrough => exact later s1
      | abort => exact ⟨r, List.mem_cons_self, Handler.neverAborts_of_write h⟩
    · exact later s

/-! ## The accesses -/

/-- An access aborted: some handler can abort, and what is left is the state before the accesses, changed by those before
the one that aborted, with `sp` moved by one of `ks` (R208). -/
structure Aborted (s : State) (ks : List Word) (r : Fault) : Prop where
  left : StackFault s ks r
  handler : s.busIsSafe = false

theorem not_aborted {s : State} {ks : List Word} (hb : s.busIsSafe = true) (r : Fault) : ¬ Aborted s ks r :=
  fun h => absurd (hb.symm.trans h.handler) (by decide)

theorem Aborted.mono {s : State} {ks ls : List Word} {r : Fault} (h : Aborted s ks r) (hs : ks ⊆ ls) :
    Aborted s ls r := by
  obtain ⟨⟨a, kind, v, n, t, hr, k, hk, ht⟩, hb⟩ := h
  exact ⟨⟨a, kind, v, n, t, hr, k, hs hk, ht⟩, hb⟩

/-- What is aborted after accesses is aborted from the state before them. -/
theorem Aborted.after {s u : State} {ks : List Word} {r : Fault} (h : s.Accessed u) (hr : Aborted u ks r) :
    Aborted s ks r := by
  obtain ⟨⟨a, kind, v, n, t, hr, k, hk, ht⟩, hb⟩ := hr
  exact ⟨⟨a, kind, v, n, t, hr, k, hk, (h.moveSp k).trans ht⟩,
    (State.busIsSafe_of_registry h.kept.setup.1).symm.trans hb⟩

theorem BusFault.aborted {s : State} {a : Word} {kind : AccessKind} {v : Option Byte} {r : Fault}
    (h : BusFault s a kind v r) (hs : SomeAborts s.registry) : Aborted s [0#16] r := by
  obtain ⟨n, t, rfl, ht, -⟩ := h
  have still : s.moveSp 0#16 = s := by simp [State.moveSp]
  exact ⟨⟨a, kind, v, n, t, rfl, 0#16, by simp, still.symm ▸ ht⟩, State.busIsSafe_eq_false.mpr hs⟩

theorem read8_aborts (a : Word) (s : State) : Ends (read8 a s) (fun v => s.Accessed v.2) (Aborted s [0#16]) never :=
  ((read8_ends a s).and (readVia_aborts s.registry a s)).mono (fun _ h => h.1.1) (fun _ h => h.1.aborted h.2)
    fun _ h => h.1

theorem write8_aborts (a : Word) (v : Byte) (s : State) : Ends (write8 a v s) s.Accessed (Aborted s [0#16]) never :=
  ((write8_ends a v s).and (writeVia_aborts s.registry a v s)).mono (fun _ h => h.1.1) (fun _ h => h.1.aborted h.2)
    fun _ h => h.1

theorem write16_aborts (a v : Word) (s : State) : Ends (write16 a v s) s.Accessed (Aborted s [0#16]) never :=
  (write8_aborts a (loByte v) s).andThen
    (fun s1 h1 => (write8_aborts (a + 1#16) (hiByte v) s1).mono (fun _ => h1.trans) (fun _ => .after h1) fun _ => id)
    (fun _ => id) fun _ => id

theorem push16_aborts (v : Word) (s : State) :
    Ends (push16 v s) (fun t => (s.moveSp (-2#16)).Accessed t) (Aborted s [-1#16, -2#16]) never := by
  have half (w : Byte) (u : State) :
      Ends (pushByte w u) (fun t => t.busIsSafe = u.busIsSafe) (fun _ => u.busIsSafe = false) never := by
    have same := State.busIsSafe_of_registry (u.moveSp_registry (-1#16))
    exact (write8_aborts (u.sp - 1#16) w (u.moveSp (-1#16))).mono
      (fun _ h => (State.busIsSafe_of_registry h.kept.setup.1).trans same) (fun _ h => same.symm.trans h.handler)
      fun _ => id
  have handler : Ends (push16 v s) (fun _ => True) (fun _ => s.busIsSafe = false) never := by
    refine (half (hiByte v) s).andThen (fun s1 h1 => ?_) (fun _ => id) fun _ => id
    exact (half (loByte v) s1).mono (fun _ _ => trivial) (fun _ h => h1.symm.trans h) fun _ => id
  exact ((push16_ends v s).and handler).mono (fun _ h => h.1.1) (fun _ h => ⟨h.1, h.2⟩) fun _ h => h.1

theorem pop16_aborts (s : State) :
    Ends (pop16 s) (fun v => (s.moveSp 2#16).Accessed v.2) (Aborted s [0#16, 1#16]) never := by
  have half (u : State) :
      Ends (popByte u) (fun v => v.2.busIsSafe = u.busIsSafe) (fun _ => u.busIsSafe = false) never :=
    (read8_aborts u.sp u).andThen (fun _ h => State.busIsSafe_of_registry h.kept.setup.1) (fun _ h => h.handler)
      fun _ => id
  have handler : Ends (pop16 s) (fun _ => True) (fun _ => s.busIsSafe = false) never := by
    refine (half s).andThen (fun lo hlo => ?_) (fun _ => id) fun _ => id
    exact (half lo.2).andThen (fun _ _ => trivial) (fun _ h => hlo.symm.trans h) fun _ => id
  exact ((pop16_ends s).and handler).mono (fun _ h => h.1.1) (fun _ h => ⟨h.1, h.2⟩) fun _ h => h.1

/-! ## Accesses, then a change of the state

An instruction changes registers and flags only after its last access has answered. -/

/-- The operation faults only where an access aborted, with `sp` moved by one of `ks`, and is refused only by STOP. -/
abbrev Aborts (s : State) (ks : List Word) (o : Out) : Prop :=
  Ends o (fun _ => True) (Aborted s ks) (StopRefusal s)

/-- One access, or a run of them, and then a next state. -/
theorem Aborts.of_access {α : Type} {s : State} {ks ls : List Word} {o : Host.Outcome α Fault Refusal} {P : α → Prop}
    (h : Ends o P (Aborted s ks) never) (hs : ks ⊆ ls) (f : α → State) :
    Aborts s ls (andThen o fun a => .next (f a)) :=
  h.andThen (fun _ _ => trivial) (fun _ hr => hr.mono hs) fun _ => False.elim

theorem aborts_read (a : Word) (s : State) (ks : List Word) (f : Byte × State → State) :
    Aborts s (0#16 :: ks) (andThen (read8 a s) fun v => .next (f v)) := .of_access (read8_aborts a s) (by simp) f

theorem aborts_write (a : Word) (v : Byte) (s : State) (ks : List Word) (f : State → State) :
    Aborts s (0#16 :: ks) (andThen (write8 a v s) fun s1 => .next (f s1)) :=
  .of_access (write8_aborts a v s) (by simp) f

/-- A form that modifies the byte at HL: a read, a write, then the flags (43_rotate_shift_bit.md R165). -/
theorem aborts_modify (s : State) (ks : List Word) (g : Byte → Byte) (f : Byte → State → State) :
    Aborts s (0#16 :: ks)
      (andThen (read8 s.hl s) fun v => andThen (write8 s.hl (g v.1) v.2) fun s1 => .next (f v.1 s1)) :=
  (read8_aborts s.hl s).andThen
    (fun v hv => (write8_aborts s.hl (g v.1) v.2).andThen (fun _ _ => trivial)
      (fun _ hr => (hr.after hv).mono (by simp)) fun _ => False.elim)
    (fun _ hr => hr.mono (by simp)) fun _ => False.elim

end Sys2Proof.Machine

namespace Sys2Proof

/-- How far `sp` may have moved where an access of the instruction aborts (60_exceptions.md R208). -/
def Instr.spMoves (i : Instr) : List Word := 0#16 :: if i.usesStack then [-1#16, -2#16, 1#16] else []

theorem Instr.spMoves_of_stack {i : Instr} (h : i.usesStack = true) : i.spMoves = [0#16, -1#16, -2#16, 1#16] := by
  rw [Instr.spMoves, if_pos h]

namespace Machine

theorem aborts_push {i : Instr} (h : i.usesStack = true) (v : Word) (s : State) (f : State → State) :
    Aborts s i.spMoves (andThen (push16 v s) fun t => .next (f t)) :=
  .of_access (push16_aborts v s) (by simp [Instr.spMoves_of_stack h]) f

theorem aborts_pop {i : Instr} (h : i.usesStack = true) (s : State) (f : Word × State → State) :
    Aborts s i.spMoves (andThen (pop16 s) fun v => .next (f v)) :=
  .of_access (pop16_aborts s) (by simp [Instr.spMoves_of_stack h]) f

/-! ## The shared operations that are not one access and a next state -/

theorem incM_aborts (s : State) (ks : List Word) : Aborts s (0#16 :: ks) (incM s) :=
  aborts_modify s ks (· + 1#8) fun b s1 => (s1.setF (incFlags b s1.f)).charge 12

theorem decM_aborts (s : State) (ks : List Word) : Aborts s (0#16 :: ks) (decM s) :=
  aborts_modify s ks (· - 1#8) fun b s1 => (s1.setF (decFlags b s1.f)).charge 12

theorem rotM_aborts (op : Rot) (s : State) (ks : List Word) : Aborts s (0#16 :: ks) (rotM op s) :=
  aborts_modify s ks (fun b => (op.run b s.f.c).1) fun b s1 =>
    (s1.setF (rotFlags (op.run b s.f.c).1 (op.run b s.f.c).2)).charge 16

theorem modifyM_aborts (g : Byte → Byte) (s : State) (ks : List Word) : Aborts s (0#16 :: ks) (modifyM g s) :=
  aborts_modify s ks g fun _ s1 => s1.charge 16

theorem jumpIf_aborts (cc : Cond) (target : Word) (c d : Nat) (s : State) (ks : List Word) :
    Aborts s ks (jumpIf cc target c d s) := by
  rw [jumpIf_eq]
  trivial

theorem callIf_aborts {i : Instr} (h : i.usesStack = true) (cc : Cond) (target : Word) (s : State) :
    Aborts s i.spMoves (callIf cc target s) := by
  unfold callIf
  split
  · exact aborts_push h s.pc s _
  · trivial

theorem retIf_aborts {i : Instr} (h : i.usesStack = true) (cc : Cond) (s : State) :
    Aborts s i.spMoves (retIf cc s) := by
  unfold retIf
  split
  · exact aborts_pop h s _
  · trivial

theorem reti_aborts (s : State) : Aborts s (Instr.spMoves .reti) (reti s) := by
  rw [reti, returnFromInterrupt, andThen_assoc]
  exact aborts_pop rfl s _

theorem stop_aborts (s : State) (ks : List Word) : Aborts s ks (stop s) := by
  cases h : s.config.stopMode with
  | nop => rw [stop_nop h]; trivial
  | refuse => rw [stop_refuse h]; exact ⟨rfl, h⟩

theorem enable_aborts (s : State) (ks : List Word) : Aborts s ks (enable s) := by
  unfold enable
  split <;> trivial

theorem prefixCB_aborts (op2 : Byte) (s : State) : Aborts s (Instr.spMoves (.prefixCB op2)) (runPrefixed op2 s) := by
  rw [runPrefixed]
  generalize (op2.extractLsb' 6 2).toNat = x
  match x, Operand8.ofCode (op2.extractLsb' 0 3) with
  | 0, .reg r => trivial
  | 0, .atHL => exact rotM_aborts _ s _
  | 1, .reg r => trivial
  | 1, .atHL => exact aborts_read s.hl s _ _
  | 2, .reg r => trivial
  | 2, .atHL => exact modifyM_aborts _ s _
  | _ + 3, .reg r => trivial
  | _ + 3, .atHL => exact modifyM_aborts _ s _

/-! ## Every instruction -/

/-- Every instruction faults only where one of its accesses aborts, and is refused only by STOP. -/
theorem exec_aborts (i : Instr) (s : State) : Aborts s i.spMoves (exec i s) := by
  induction i using Instr.byForm with
  | h_nop => trivial
  | h_ldPairN p n => rw [exec_ldPairN]; trivial
  | h_ld_mBC_a => exact aborts_write s.bc s.rA s _ _
  | h_incPair p => rw [exec_incPair]; trivial
  | h_incR r => rw [exec_incR]; trivial
  | h_decR r => rw [exec_decR]; trivial
  | h_ldRN dst n => rw [exec_ldRN]; trivial
  | h_rlca => trivial
  | h_ld_mA16_sp a => exact .of_access (write16_aborts a s.sp s) (by simp [Instr.spMoves]) _
  | h_addHL p => rw [exec_addHL]; trivial
  | h_ld_a_mBC => exact aborts_read s.bc s _ _
  | h_decPair p => rw [exec_decPair]; trivial
  | h_rrca => trivial
  | h_stop_n8 n => exact stop_aborts s _
  | h_ld_mDE_a => exact aborts_write s.de s.rA s _ _
  | h_rla => trivial
  | h_jr_e8 e => trivial
  | h_ld_a_mDE => exact aborts_read s.de s _ _
  | h_rra => trivial
  | h_jrIf cc e => rw [exec_jrIf]; exact jumpIf_aborts cc _ 12 8 s _
  | h_ld_mHLinc_a => exact aborts_write s.hl s.rA s _ _
  | h_daa => trivial
  | h_ld_a_mHLinc => exact aborts_read s.hl s _ _
  | h_cpl => trivial
  | h_ld_mHLdec_a => exact aborts_write s.hl s.rA s _ _
  | h_inc_mHL => exact incM_aborts s _
  | h_dec_mHL => exact decM_aborts s _
  | h_ld_mHL_n8 n => exact aborts_write s.hl n s _ _
  | h_scf => trivial
  | h_ld_a_mHLdec => exact aborts_read s.hl s _ _
  | h_ccf => trivial
  | h_ldRR dst r => rw [exec_ldRR]; trivial
  | h_ldRM dst => rw [exec_ldRM]; exact aborts_read s.hl s _ _
  | h_ldMR r => rw [exec_ldMR]; exact aborts_write s.hl (s.getR r) s _ _
  | h_halt => trivial
  | h_aluR op r => rw [exec_aluR]; trivial
  | h_aluM op => rw [exec_aluM]; exact aborts_read s.hl s _ _
  | h_retIf cc => rw [exec_retIf]; exact retIf_aborts (by cases cc <;> rfl) cc s
  | h_pop p => rw [exec_pop]; exact aborts_pop (by cases p <;> rfl) s _
  | h_jpIf cc a => rw [exec_jpIf]; exact jumpIf_aborts cc a 16 12 s _
  | h_jp_a16 a => trivial
  | h_callIf cc a => rw [exec_callIf]; exact callIf_aborts (by cases cc <;> rfl) cc a s
  | h_push p => rw [exec_push]; exact aborts_push (by cases p <;> rfl) (s.getStackPair p) s _
  | h_aluN op n => rw [exec_aluN]; trivial
  | h_rst y => rw [exec_rst]; exact aborts_push (by fin_cases y <;> rfl) s.pc s _
  | h_ret => exact aborts_pop rfl s _
  | h_prefixCB op2 => exact prefixCB_aborts op2 s
  | h_call_a16 a => exact aborts_push rfl s.pc s _
  | h_reti => exact reti_aborts s
  | h_ldh_mA8_a a => exact aborts_write (highPage a) s.rA s _ _
  | h_ld_mC_a => exact aborts_write (highPage s.rC) s.rA s _ _
  | h_add_sp_e8 e => trivial
  | h_jp_hl => trivial
  | h_ld_mA16_a a => exact aborts_write a s.rA s _ _
  | h_ldh_a_mA8 a => exact aborts_read (highPage a) s _ _
  | h_ld_a_mC => exact aborts_read (highPage s.rC) s _ _
  | h_di => trivial
  | h_ld_hl_spE8 e => trivial
  | h_ld_sp_hl => trivial
  | h_ld_a_mA16 a => exact aborts_read a s _ _
  | h_ei => exact enable_aborts s _
  | h_rotR op r => rw [exec_rotR]; trivial
  | h_rotM op => rw [exec_rotM]; exact rotM_aborts op s _
  | h_bitR b r => rw [exec_bitR]; trivial
  | h_bitM b => rw [exec_bitM]; exact aborts_read s.hl s _ _
  | h_resR b r => rw [exec_resR]; trivial
  | h_resM b => rw [exec_resM]; exact modifyM_aborts _ s _
  | h_setR b r => rw [exec_setR]; trivial
  | h_setM b => rw [exec_setM]; exact modifyM_aborts _ s _

/-- Where no handler can abort and STOP is a no-op, every instruction answers (60_exceptions.md R210). -/
theorem exec_completes (i : Instr) {s : State} (hb : s.busIsSafe = true) (hs : s.config.stopMode = .nop) :
    ∃ t, exec i s = .next t := by
  have not_stopped (r : Refusal) : ¬ StopRefusal s r := fun h => absurd (hs.symm.trans h.2) (by decide)
  obtain ⟨t, ht, -⟩ := (exec_aborts i s).completes (not_aborted hb) not_stopped
  exact ⟨t, ht⟩

/-- What an aborted access says of the state it leaves: the registers but `sp`, and the setup, are as they were. -/
theorem Aborted.frame {s : State} {ks : List Word} {r : Fault} (h : Aborted s ks r) :
    ∃ a kind v handle t, r = .illegalBusAccess a kind v handle { t with faulted := true } ∧
      s.sameCpu { t with sp := s.sp } ∧ s.sameSetup t ∧ ∃ k ∈ ks, t.sp = s.sp + k := by
  obtain ⟨a, kind, v, n, t, rfl, k, hk, ht⟩ := h.left
  obtain ⟨hA, hF, hB, hC, hD, hE, hH, hL, hsp, rest⟩ := ht.cpu
  exact ⟨a, kind, v, n, t, rfl, ⟨hA, hF, hB, hC, hD, hE, hH, hL, rfl, rest⟩, ht.kept.setup, k, hk, hsp⟩

end Machine
end Sys2Proof

open Sys2Proof Sys2Proof.Machine

/-- Settles O36: an instruction fails to answer only where a handler can abort or STOP is refused (`exec_aborts`). -/
theorem everyInstructionCompletes : Obligations.EveryInstructionCompletes := fun i _ => exec_completes i

/-- Settles O40: the fault of an instruction is that of an access which aborted (`exec_aborts`), and `sp` has moved only
where the instruction pushes or pops (`Instr.spMoves`). -/
theorem instructionFaultEffects : Obligations.InstructionFaultEffects := by
  intro i s r h
  have aborted := exec_aborts i s
  rw [h] at aborted
  obtain ⟨a, kind, v, handle, t, hr, cpu, setup, k, hk, hsp⟩ := aborted.frame
  refine ⟨a, kind, v, handle, t, hr, cpu, setup, fun hi => ?_, fun hi => ?_⟩
  · obtain rfl : k = 0#16 := by simpa [Instr.spMoves, hi] using hk
    rw [hsp, BitVec.add_zero]
  · rw [Instr.spMoves_of_stack hi] at hk
    simp only [hsp, List.mem_cons, List.not_mem_nil, or_false] at hk ⊢
    rcases hk with rfl | rfl | rfl | rfl <;> simp [BitVec.sub_eq_add_neg]
end

section
/-! A step without a handler that can abort (60_exceptions.md R205-R207, R210): each of its phases answers, but for the fetch of
an undefined byte. -/

namespace Sys2Proof

open Machine

/-- As many bytes as the form has operands decode, with nothing left. -/
theorem decodeForm_of_length {form : OpForm} {rest : List Byte} (h : rest.length = (form.operands 0 0).length) :
    ∃ i, decodeForm form rest = .ok (i, []) := by
  match form, rest, h with
  | .plain i, [], _ => exact ⟨i, rfl⟩
  | .imm8 mk, [n], _ => exact ⟨mk n, rfl⟩
  | .imm16 mk, [lo, hi], _ => exact ⟨mk (joinBytes hi lo), rfl⟩
  | .marker, [b1], _ => exact ⟨_, decodePrefixed_eq b1 []⟩

/-- A defined opcode gives its length, and as many bytes in all decode, with nothing left (30_encoding.md R82, R92). -/
theorem decode_of_length {b : Byte} (h : b ∉ undefinedBytes) :
    ∃ len, lengthFromByte b = some len ∧
      ∀ rest : List Byte, rest.length = len - 1 → ∃ i, decode (b :: rest) = .ok (i, []) := by
  obtain ⟨op, ho⟩ := Option.ne_none_iff_exists'.mp fun hn => h ((unprefixed_eq_none_iff b).mp hn)
  refine ⟨_, lengthFromByte_of_entry ho 0 0, fun rest hr => ?_⟩
  obtain ⟨i, hi⟩ := decodeForm_of_length (form := op.form) (by simpa using hr)
  exact ⟨i, by simpa [decode, opcodeFromByte, ho] using hi⟩

namespace Machine

/-! ## What the steps of a run keep -/

theorem State.Kept.busIsSafe {s t : State} (h : s.Kept t) (hb : s.busIsSafe = true) : t.busIsSafe = true :=
  (State.busIsSafe_of_registry h.setup.1).trans hb

theorem State.Kept.no_devices {s t : State} (h : s.Kept t) (hd : s.devices = []) : t.devices = [] := by
  simpa [hd] using h.kinds

theorem pollInterrupts_kept {s t : State} (h : pollInterrupts s = .next t) : s.Kept t := by
  rcases pollInterrupts_cases s with ⟨hp, -⟩ | ⟨l, -, -, hp⟩
  · cases hp.symm.trans h
    exact s.wake_kept
  · exact (s.wake_kept.trans (s.wake.kept_clearRequest l)).trans (takeInterrupt_next (hp.symm.trans h)).1

/-! ## The phases -/

section
variable {s : State} (hb : s.busIsSafe = true)
include hb

theorem read8_completes (a : Word) : ∃ v, read8 a s = .next v ∧ s.Accessed v.2 :=
  (read8_aborts a s).completes (not_aborted hb) fun _ => id

theorem readBytes_completes (n : Nat) (a : Word) : ∃ v, readBytes n a s = .next v ∧ v.1.length = n := by
  induction n generalizing a s with
  | zero => exact ⟨_, rfl, rfl⟩
  | succ n ih =>
    obtain ⟨b, h0, ha⟩ := read8_completes hb a
    obtain ⟨rest, h1, hlen⟩ := ih (ha.kept.busIsSafe hb) (a + 1#16)
    exact ⟨(b.1 :: rest.1, rest.2), by simp [readBytes, h0, h1], by simp [hlen]⟩

/-- A fetch answers, or it has read an undefined byte (60_exceptions.md R206). -/
theorem fetch_completes_or_undefined :
    (∃ i t, fetch s = .next (i, t) ∧ s.Kept t) ∨ ∃ b t, read8 s.pc s = .next (b, t) ∧ b ∈ undefinedBytes := by
  obtain ⟨⟨b, t⟩, h0, ha⟩ := read8_completes hb s.pc
  by_cases hu : b ∈ undefinedBytes
  · exact .inr ⟨b, t, h0, hu⟩
  · obtain ⟨len, hlen, decodes⟩ := decode_of_length hu
    obtain ⟨⟨rest, u⟩, h1, hrest⟩ := readBytes_completes (ha.kept.busIsSafe hb) (len - 1) (s.pc + 1#16)
    obtain ⟨i, hi⟩ := decodes rest hrest
    have fetched : fetch s = .next (i, u.advance len) := by simp [fetch, h0, hlen, h1, hi]
    obtain ⟨v, n, hv, he⟩ := fetch_next fetched
    exact .inl ⟨i, _, fetched, he ▸ hv.kept.trans (State.kept_of_outside (v.advance_outside n))⟩

theorem pollInterrupts_completes : ∃ t, pollInterrupts s = .next t := by
  rcases pollInterrupts_cases s with ⟨hp, -⟩ | ⟨l, hi, hn, -⟩
  · exact ⟨_, hp⟩
  · obtain ⟨u, hu, -⟩ := (push16_aborts s.pc (s.serving l)).completes (not_aborted hb) fun _ => id
    rw [pollInterrupts_service hi hn, hu]
    exact ⟨_, rfl⟩

/-- With no device a step completes where its instruction phase does. -/
theorem step_completes {u : State} (hf : s.faulted = false) (hd : s.devices = []) (hk : s.Kept u)
    (h : instructionPhase s.promoteEI = .next u) : ∃ t, step s = .next t := by
  obtain ⟨t, ht⟩ := pollInterrupts_completes (hk.busIsSafe hb)
  have no_devices : t.devices = [] := (hk.trans (pollInterrupts_kept ht)).no_devices hd
  refine ⟨t, ?_⟩
  rw [step_of_not_faulted hf, cpuStep, h, andThen_next, ht, andThen_next, peripheralPhase_of_no_devices no_devices]

end

end Machine
end Sys2Proof

open Sys2Proof Sys2Proof.Machine

/-- Settles O31: the idle of a halted step answers, and so does the instruction of a running one (`exec_completes`), unless
its fetch has read an undefined byte (`fetch_completes_or_undefined`). -/
theorem stepCompletesOrDecodeFails : Obligations.StepCompletesOrDecodeFails := by
  intro s hf hb hd hs
  have promoted := s.promoteEI_kept
  cases hm : s.mode with
  | halted =>
    have idle := State.kept_of_outside (s.promoteEI.charge_outside s.promoteEI.config.haltIdleCycles)
    refine .inl (step_completes hb hf hd (promoted.trans idle) ?_)
    rw [instructionPhase, s.promoteEI_mode, hm]
  | running =>
    rcases fetch_completes_or_undefined (promoted.busIsSafe hb) with ⟨i, u, hfetch, fetched⟩ | ⟨b, t, hread, hu⟩
    · have hk := promoted.trans fetched
      obtain ⟨v, hv⟩ := exec_completes i (hk.busIsSafe hb) ((congrArg Config.stopMode hk.setup.2.2).trans hs)
      refine .inl (step_completes hb hf hd (hk.trans (exec_stored hv).kept) ?_)
      rw [instructionPhase, s.promoteEI_mode, hm]
      simp only [fetchDecodeExecute, hfetch, andThen_next, hv]
    · rw [s.promoteEI_pc] at hread
      exact .inr ⟨b, t, rfl, hread, hu, step_of_undefined hf hm hread hu⟩
end

section
/-! Construction (60_exceptions.md R209; 20_memory.md R41, R44; 70_reset_and_hazards.md R240): what registering regions leaves,
and when one is refused. -/

namespace Sys2Proof.Machine

/-- A registration without its handle. -/
def Registration.entry (r : Registration) : Word × Word × Handler := (r.first, r.last, r.handler)

/-- The registrations without a handle that the regions of one handler make. -/
def entriesOf (regions : List (Word × Word)) (h : Handler) : List (Word × Word × Handler) :=
  regions.map fun region => (region.1, region.2, h)

/-- The same of devices, the first at place `i` (20_memory.md R44). -/
def deviceEntries (ds : List DeviceOption) (i : Nat) : List (Word × Word × Handler) :=
  (ds.zipIdx i).flatMap fun d => entriesOf d.1.regions (.device d.2)

/-- The handles count up from 0, and the counter is after them (10_state.md R32). -/
def State.numbered (s : State) : Prop :=
  s.registry.map Registration.handle = List.range s.registry.length ∧ s.nextHandle = s.registry.length

/-- From `s` to `t` registrations are appended, those of `entries` in order, and nothing else is changed. -/
structure Registered (entries : List (Word × Word × Handler)) (s t : State) : Prop where
  frame : t = { s with registry := t.registry, nextHandle := t.nextHandle }
  before : s.registry <+: t.registry
  entries : t.registry.map Registration.entry = s.registry.map Registration.entry ++ entries
  numbered : s.numbered → t.numbered
  registryWf : s.registryWf = true → t.registryWf = true

theorem Registered.refl (s : State) : Registered [] s s :=
  ⟨rfl, List.prefix_rfl, (List.append_nil _).symm, id, id⟩

theorem Registered.trans {es fs : List (Word × Word × Handler)} {s t u : State} (h : Registered es s t)
    (k : Registered fs t u) : Registered (es ++ fs) s u where
  frame := by
    rw [k.frame, h.frame]
  before := h.before.trans k.before
  entries := by rw [k.entries, h.entries, List.append_assoc]
  numbered := k.numbered ∘ h.numbered
  registryWf := k.registryWf ∘ h.registryWf

/-- A region in order is registered at the end under the counter's handle (20_memory.md R41). -/
theorem addHandler_registered {first last : Word} (h : Handler) (s : State) (ho : first.toNat ≤ last.toNat) :
    ∃ n t, addHandler first last h s = .ok (n, t) ∧ Registered [(first, last, h)] s t := by
  refine ⟨_, _, addHandler_of_le h s ho, rfl, List.prefix_append _ _, by simp [Registration.entry], ?_, fun hw => ?_⟩
  · rintro ⟨handles, counter⟩
    exact ⟨by simp [handles, counter, List.range_succ], by simp [counter]⟩
  · exact registryWfFrom_append hw rfl ho

/-- A region is out of order (20_memory.md R41). -/
def outOfOrder (region : Word × Word) : Prop := region.2.toNat < region.1.toNat

theorem addRegions_registered {regions : List (Word × Word)} (h : Handler) (s : State)
    (ho : ∀ r ∈ regions, ¬ outOfOrder r) :
    ∃ t, addRegions regions h s = .ok t ∧ Registered (entriesOf regions h) s t := by
  induction regions generalizing s with
  | nil => exact ⟨s, rfl, .refl s⟩
  | cons r rest ih =>
    obtain ⟨hr, hrest⟩ := List.forall_mem_cons.mp ho
    obtain ⟨n, s1, h1, reg1⟩ := addHandler_registered h s (Nat.le_of_not_lt hr)
    obtain ⟨t, h2, reg2⟩ := ih s1 hrest
    exact ⟨t, by simp [addRegions, h1, h2], reg1.trans reg2⟩

theorem addRegions_refused {regions : List (Word × Word)} (h : Handler) (s : State)
    (ho : ∃ r ∈ regions, outOfOrder r) : ∃ e, addRegions regions h s = .error e := by
  induction regions generalizing s with
  | nil => simp at ho
  | cons r rest ih =>
    by_cases hr : outOfOrder r
    · exact ⟨.badRegion r.1 r.2, by simp [addRegions, addHandler_of_lt h s hr]⟩
    · rw [List.exists_mem_cons_iff] at ho
      obtain ⟨n, s1, h1, -⟩ := addHandler_registered h s (Nat.le_of_not_lt hr)
      obtain ⟨e, he⟩ := ih s1 (ho.resolve_left hr)
      exact ⟨e, by simp [addRegions, h1, he]⟩

theorem addDevices_registered {ds : List DeviceOption} (i : Nat) (s : State)
    (ho : ∀ d ∈ ds, ∀ r ∈ d.regions, ¬ outOfOrder r) :
    ∃ t, addDevices ds i s = .ok t ∧ Registered (deviceEntries ds i) s t := by
  induction ds generalizing i s with
  | nil => exact ⟨s, rfl, .refl s⟩
  | cons d rest ih =>
    obtain ⟨hd, hrest⟩ := List.forall_mem_cons.mp ho
    obtain ⟨s1, h1, reg1⟩ := addRegions_registered (.device i) s hd
    obtain ⟨t, h2, reg2⟩ := ih (i + 1) s1 hrest
    exact ⟨t, by simp [addDevices, h1, h2], reg1.trans reg2⟩

theorem addDevices_refused {ds : List DeviceOption} (i : Nat) (s : State)
    (ho : ∃ d ∈ ds, ∃ r ∈ d.regions, outOfOrder r) : ∃ e, addDevices ds i s = .error e := by
  induction ds generalizing i s with
  | nil => simp at ho
  | cons d rest ih =>
    by_cases hd : ∃ r ∈ d.regions, outOfOrder r
    · obtain ⟨e, he⟩ := addRegions_refused (.device i) s hd
      exact ⟨e, by simp [addDevices, he]⟩
    · rw [List.exists_mem_cons_iff] at ho
      obtain ⟨s1, h1, -⟩ := addRegions_registered (.device i) s fun r hr hn => hd ⟨r, hr, hn⟩
      obtain ⟨e, he⟩ := ih (i + 1) s1 (ho.resolve_left hd)
      exact ⟨e, by simp [addDevices, h1, he]⟩

/-- The block with the options given and the controller registered, before any device (20_memory.md R44). -/
def Options.withController (o : Options) : State :=
  { State.reset with
    mem := Memory.ofCells o.initialMemory, config := o.config, devices := o.devices.map DeviceOption.device }

theorem construct_eq (o : Options) : construct o =
    if o.doubleSpeed then .error .unsupportedFeature else addDevices o.devices 0 o.withController := rfl

theorem Options.withController_inv (o : Options) : o.withController.Inv where
  memWf := Memory.ofCells_wf _
  controllerFirst := rfl
  registryWf := rfl
  scheduledOnlyIfDelayed := fun _ => rfl
  haltedNotScheduled := fun _ => rfl
  notFaulted := rfl

theorem State.controllerFirst_of_prefix {s t : State} (h : s.controllerFirst = true)
    (hp : s.registry <+: t.registry) : t.controllerFirst = true := by
  obtain ⟨rest, hs⟩ := State.registry_of_controllerFirst h
  obtain ⟨more, ht⟩ := hp
  simp [State.controllerFirst, ← ht, hs, controllerRegistrations]

/-- Registering more handlers keeps the invariant. -/
theorem Registered.inv {es : List (Word × Word × Handler)} {s t : State} (h : Registered es s t) (hs : s.Inv) :
    t.Inv := by
  have first := State.controllerFirst_of_prefix hs.controllerFirst h.before
  have wf := h.registryWf hs.registryWf
  obtain ⟨regs, n, rfl⟩ : ∃ regs n, t = { s with registry := regs, nextHandle := n } := ⟨_, _, h.frame⟩
  exact ⟨hs.memWf, first, wf, hs.scheduledOnlyIfDelayed, hs.haltedNotScheduled, hs.notFaulted⟩

end Sys2Proof.Machine

open Sys2Proof Sys2Proof.Machine

/-- Settles O10: after the controller's two registrations (`construct_eq`), the devices' regions are registered in order
(`addDevices_registered`), unless one of them is out of order (`addDevices_refused`). -/
theorem constructionOrRefusal : Obligations.ConstructionOrRefusal := by
  intro o
  rw [construct_eq]
  cases o.doubleSpeed with
  | true => exact ⟨⟨fun _ => .inl rfl, fun _ => ⟨_, rfl⟩⟩, fun s h => by cases h⟩
  | false =>
    by_cases ho : ∃ d ∈ o.devices, ∃ r ∈ d.regions, outOfOrder r
    · obtain ⟨e, he⟩ := addDevices_refused 0 o.withController ho
      exact ⟨⟨fun _ => .inr ho, fun _ => ⟨e, he⟩⟩, fun s h => by cases he.symm.trans h⟩
    · obtain ⟨t, ht, reg⟩ := addDevices_registered 0 o.withController fun d hd r hr hn => ho ⟨d, hd, r, hr, hn⟩
      refine ⟨⟨fun ⟨e, he⟩ => (by cases ht.symm.trans he), fun h => absurd (h.resolve_left (by decide)) ho⟩,
        fun s h => ?_⟩
      cases ht.symm.trans h
      have inv := reg.inv o.withController_inv
      have first : t.registry.take 2 = controllerRegistrations := of_decide_eq_true inv.controllerFirst
      obtain ⟨handles, counter⟩ := reg.numbered ⟨rfl, rfl⟩
      have entries := reg.entries
      obtain ⟨regs, n, rfl⟩ : ∃ regs n, t = { o.withController with registry := regs, nextHandle := n } :=
        ⟨_, _, reg.frame⟩
      exact ⟨inv, first, rfl, rfl, rfl, rfl, entries, handles, counter⟩
end

section
/-! Reset, the post-boot load and the delay of EI (70_reset_and_hazards.md R240-R242, R245). -/

namespace Sys2Proof.Machine

/-! ## Reset -/

/-- `Reset()` leaves the memory, the registry and the parameters, and schedules nothing
(70_reset_and_hazards.md R241). -/
theorem resetConsole_inv {s : State} (h : s.Inv) : (resetConsole s).Inv where
  memWf := h.memWf
  controllerFirst := h.controllerFirst
  registryWf := h.registryWf
  scheduledOnlyIfDelayed := fun _ => rfl
  haltedNotScheduled := fun _ => rfl
  notFaulted := rfl

/-! ## The step of a one-byte instruction, without devices -/

theorem pollInterrupts_disabled {s : State} (hm : s.mode = .running) (hi : s.ime = false) :
    pollInterrupts s = .next s := by
  rw [pollInterrupts_idle (.inl hi), State.wake_of_not (.inl hm)]

/-- The peripheral phase without devices changes no outcome (60_exceptions.md R235). -/
theorem andThen_peripheralPhase {o : Out} (h : ∀ t, o = .next t → t.devices = []) : andThen o peripheralPhase = o := by
  cases o with
  | next t => exact peripheralPhase_of_no_devices (h t rfl)
  | fault r => rfl
  | refused r => rfl

/-- The engine as a one-byte instruction runs: the delayed EI promoted (30_encoding.md R89), `pc` past the byte. -/
def State.pastOpcode (s : State) : State :=
  { s with pc := s.pc + 1#16, ime := s.ime || s.imeScheduled, imeScheduled := false }

theorem State.promoteEI_advance_one (s : State) : { s.promoteEI with pc := s.pc + 1#16 } = s.pastOpcode := by
  rw [s.promoteEI_eq, State.pastOpcode]

theorem State.pastOpcode_kept (s : State) : s.Kept s.pastOpcode :=
  ⟨⟨rfl, rfl, rfl⟩, rfl, rfl, id, fun _ => rfl, fun _ => rfl⟩

/-- What a delayed EI leaves (45_system.md R203). -/
def State.afterEI (s : State) : State := { s with pc := s.pc + 1#16, imeScheduled := true, cycles := 4 }

section
variable {s : State} (hf : s.faulted = false) (hm : s.mode = .running) (hd : s.devices = [])
  (hp : s.plainAt s.pc = true)
include hf hm hd hp

/-- Once its instruction has completed, the step is the poll. -/
theorem step_of_opcode {t : State} {i : Instr} {b : Byte} (hw : i.wellFormed = true) (he : encode i = [b])
    (hb : s.peek s.pc = b) (hx : exec i s.pastOpcode = .next t) : step s = pollInterrupts t := by
  have stored : ∀ k, k < (encode i).length → s.plainAt (s.pc + BitVec.ofNat 16 k) = true ∧
      (encode i)[k]? = some (s.peek (s.pc + BitVec.ofNat 16 k)) := by simp [he, hb, hp]
  rw [stepRunsStoredInstruction s i hf hm hw stored, he, List.length_singleton, s.promoteEI_advance_one, hx,
    andThen_next]
  exact andThen_peripheralPhase fun u hu =>
    ((s.pastOpcode_kept.trans (exec_stored hx).kept).trans (pollInterrupts_kept hu)).no_devices hd

/-- An EI that is delayed is scheduled, and its own poll takes nothing (45_system.md R203). -/
theorem step_ei (hs : s.imeScheduled = false) (hi : s.ime = false) (delayed : s.config.eiDelayed = true)
    (hb : s.peek s.pc = 0xFB#8) : step s = .next s.afterEI := by
  have enabled : exec .ei s.pastOpcode = .next s.afterEI := by
    rw [exec_ei, enable_delayed (s := s.pastOpcode) delayed]
    simp [State.pastOpcode, State.afterEI, hs]
  exact (step_of_opcode hf hm hd hp rfl rfl hb enabled).trans (pollInterrupts_disabled hm hi)

/-- DI takes back an EI before it, promoted or not (45_system.md R202). -/
theorem step_di (hb : s.peek s.pc = 0xF3#8) :
    step s = .next { s with pc := s.pc + 1#16, ime := false, imeScheduled := false, cycles := 4 } :=
  (step_of_opcode hf hm hd hp rfl rfl hb (exec_di _)).trans (pollInterrupts_disabled hm rfl)

/-- The poll after a NOP sees the promotion of an EI before it (45_system.md R199, 30_encoding.md R89). -/
theorem step_nop (hb : s.peek s.pc = 0x00#8) : step s = pollInterrupts (s.pastOpcode.charge 4) :=
  step_of_opcode hf hm hd hp rfl rfl hb (exec_nop _)

end

end Sys2Proof.Machine

open Sys2Proof Sys2Proof.Machine

/-- Settles O8: the views are those of the reset state. -/
theorem resetValues : Obligations.ResetValues :=
  have views : State.reset.af = 0#16 ∧ State.reset.bc = 0#16 ∧ State.reset.de = 0#16 ∧ State.reset.hl = 0#16 := by
    decide
  fun _ => ⟨rfl, views⟩

/-- Settles O9: each column of 10_state.md R37 is a case of the parameter. -/
theorem postBootValues : Obligations.PostBootValues := by
  have views : (loadPostBoot State.reset).af = 0x01B0#16 ∧ (loadPostBoot State.reset).bc = 0x0013#16 ∧
      (loadPostBoot State.reset).de = 0x00D8#16 ∧ (loadPostBoot State.reset).hl = 0x014D#16 := by decide
  refine fun s => ⟨fun dmg => ?_, fun cgb => ?_⟩
  · rw [loadPostBoot, dmg]
    exact ⟨rfl, views⟩
  · rw [loadPostBoot, cgb]
    rfl

/-- Settles O11: the default options have no device to register after the controller, and `Reset()` keeps the invariant
(`resetConsole_inv`). -/
theorem resetSatisfiesInvariant : Obligations.ResetSatisfiesInvariant :=
  ⟨rfl, Options.withController_inv Options.default, fun _ => resetConsole_inv⟩

/-- Settles O26: the step after EI is that of the state it leaves (`step_ei`); DI there leaves no interrupt to take
(`step_di`), and the poll after NOP serves the line (`step_nop`), which pushes the address by O23. -/
theorem eiDelay : Obligations.EiDelay := by
  intro s hf hm hs hi hd delayed hp hp1 hb
  have after_two : s.afterEI.pc + 1#16 = s.pc + 2#16 := BitVec.add_assoc s.pc _ _
  refine ⟨s.afterEI, step_ei hf hm hd hp hs hi delayed hb, rfl, fun hb1 => ?_, fun l hb1 hn hmem hsp1 hsp2 => ?_⟩
  · rw [step_di (s := s.afterEI) hf hm hd hp1 hb1, after_two, State.afterEI, hi, hs]
  · have enabled : s.afterEI.pastOpcode.ime = true := Bool.or_true s.ime
    obtain ⟨u, hu, frame, -, hhi, hlo, -⟩ :=
      serviceOnPlainStack (s.afterEI.pastOpcode.charge 4) l enabled hn hmem hsp1 hsp2
    refine ⟨u, (step_nop (s := s.afterEI) hf hm hd hp1 hb1).trans hu, ?_⟩
    rw [← after_two]
    exact ⟨congrArg State.pc frame, congrArg State.ime frame, congrArg State.imeScheduled frame,
      congrArg State.sp frame, hhi, hlo, congrArg State.cycles frame⟩
end
